-- ==== Sys2Proof/Word.lean ====
section
/-! DEFINITION. The byte, the numbered record table, and the count-down that every timer of the part is. -/

namespace Sys2Proof

/-- One byte of the control link. -/
abbrev Byte := BitVec 8

/-- A table of `n` records numbered from 0 (00_scope, Numbering and naming). A number outside the table names
no record. -/
structure Table (α : Type) (n : Nat) where
  rows : List α
  size : rows.length = n
deriving DecidableEq, Repr

/-- The table whose every record is `x`. -/
def Table.fill {α : Type} (n : Nat) (x : α) : Table α n := ⟨List.replicate n x, List.length_replicate⟩

/-- Record number `i`; the default record for a number the table does not hold. -/
def Table.get {α : Type} [Inhabited α] {n : Nat} (t : Table α n) (i : Nat) : α := t.rows.getD i default

/-- The table with record `i` replaced; unchanged for a number the table does not hold. -/
def Table.put {α : Type} {n : Nat} (t : Table α n) (i : Nat) (x : α) : Table α n :=
  ⟨t.rows.set i x, by rw [List.length_set]; exact t.size⟩

/-- Applies `f` to each record of a list and its number, numbering from `k`. -/
def mapFrom {α β : Type} (f : Nat → α → β) (k : Nat) : List α → List β
  | [] => []
  | x :: xs => f k x :: mapFrom f (k + 1) xs

theorem length_mapFrom {α β : Type} (f : Nat → α → β) (k : Nat) (xs : List α) :
    (mapFrom f k xs).length = xs.length := by
  induction xs generalizing k with
  | nil => rfl
  | cons x xs ih => simp [mapFrom, ih]

/-- The table with `f` applied to every record and its number. -/
def Table.map {α β : Type} {n : Nat} (f : Nat → α → β) (t : Table α n) : Table β n :=
  ⟨mapFrom f 0 t.rows, (length_mapFrom f 0 t.rows).trans t.size⟩

/-- A running timer or count (00_scope, Time): how much is left, in whole units (seconds, or minutes for an
isolation), and how many ticks of the present unit have already elapsed. A held count keeps both. -/
structure Countdown where
  left : Nat
  ticks : Nat
deriving DecidableEq, Repr, Inhabited

/-- A timer that starts now with `n` units to run. -/
def Countdown.start (n : Nat) : Countdown := ⟨n, 0⟩

/-- The whole of the last unit has elapsed: the count would now fall from 1, and the timer is to expire. -/
def Countdown.due (unit : Nat) (c : Countdown) : Bool := unit ≤ c.ticks

/-- One tick of elapsed time, `unit` ticks making one unit of the count. The count falls by one at each whole unit
elapsed since it started or last fell; a count of 1 does not fall but becomes due. -/
def Countdown.tick (unit : Nat) (c : Countdown) : Countdown :=
  if c.ticks + 1 < unit then { c with ticks := c.ticks + 1 }
  else if 1 < c.left then ⟨c.left - 1, 0⟩
  else { c with ticks := unit }

/-- A value brought into the range `lo` to `hi`. -/
def clamp (lo hi n : Nat) : Nat := if n < lo then lo else if hi < n then hi else n

end Sys2Proof
end

