-- ==== Sys2Proof/Syntax.lean ====
section
/-! DEFINITION. The commands of the OL4810 (one constructor for each row of spec/opcode_table.json) and the values
their operands are drawn from. -/

namespace Sys2Proof

/-- The two field loops (01, section 1.1). -/
inductive LoopId where
  | a | b
deriving DecidableEq, Repr, Inhabited

/-- Point kinds (00_scope). -/
inductive Kind where
  | smoke | heat | manual | presence | door | call | lamp | sign
deriving DecidableEq, Repr, Inhabited

/-- Call classes (00_scope). -/
inductive CallClass where
  | refuge | help
deriving DecidableEq, Repr, Inhabited

/-- Modes of a schedule group (05): OPEN, STAFF, SET. -/
inductive Mode where
  | openHours | staff | set
deriving DecidableEq, Repr, Inhabited

/-- How a door's exit button is read (06, section 6.1). -/
inductive ExitMode where
  | off | edge | level
deriving DecidableEq, Repr, Inhabited

/-- What a sign can show (10, section 10.2). -/
inductive Face where
  | dark | exit | left | right | ahead | up | down | noExit
deriving DecidableEq, Repr, Inhabited

/-- The kind of a sequence step (R152). -/
inductive StepKind where
  | route | dark
deriving DecidableEq, Repr, Inhabited

/-- A door contact (01, section 1.4). -/
inductive Contact where
  | closed | opened
deriving DecidableEq, Repr, Inhabited

/-- A door's lock, as commanded (LOCK or FREE) or as fed back (LOCKED or FREE) (01, section 1.4). -/
inductive Lock where
  | locked | free
deriving DecidableEq, Repr, Inhabited

/-- A luminaire's battery as its device reports it (01, section 1.4). -/
inductive Battery where
  | good | low | failed
deriving DecidableEq, Repr, Inhabited

/-- The classes of alarm-list entries (04). -/
inductive AlarmClass where
  | fire | security | fault
deriving DecidableEq, Repr, Inhabited

/-- The twenty kinds of the table of R64, in its order. -/
inductive AlarmKind where
  | detectorAlarm | manualAlarm | evacInput
  | intrusionDoor | intrusionPresence | callInSet | exitInSet | doorForced | doorHeldOpen | interlockBreach
  | pointMissing | wrongKind | detectorDirty | lockFault | lampFault | batteryFault | signFault | callUnanswered
  | mainsAbsent | settingsFault
deriving DecidableEq, Repr, Inhabited

/-- What an alarm-list entry concerns (R64). -/
inductive Obj where
  | none
  | point (n : Nat)
  | door (n : Nat)
  | pair (n : Nat)
deriving DecidableEq, Repr, Inhabited

/-- The input a device reports in a reply, by the kind whose code the reply carries (01, section 1.4). -/
inductive Input where
  | smoke (reading : Byte)
  | heat (reading : Byte)
  | manual (operated : Bool)
  | presence (active : Bool)
  | door (contact : Contact) (exitPressed : Bool) (feedback : Lock)
  | call (request : Bool)
  | lamp (lampGood : Bool) (battery : Battery)
  | sign (faceGood : Bool)
deriving DecidableEq, Repr, Inhabited

/-- The kind whose code a reply with this input carries. -/
def Input.kind : Input → Kind
  | .smoke _ => .smoke
  | .heat _ => .heat
  | .manual _ => .manual
  | .presence _ => .presence
  | .door _ _ _ => .door
  | .call _ => .call
  | .lamp _ _ => .lamp
  | .sign _ => .sign

/-- An answer of a device on a loop (R3): the code of one of the eight kinds with its input, or a code of none of
them. An answer whose check on the loop fails counts as no answer and is none of these. -/
inductive Answer where
  | input (i : Input)
  | foreign
deriving DecidableEq, Repr, Inhabited

/-- What ISOLATE and RESTORE_ISOLATION name (R13, R49). -/
inductive Target where
  | point (n : Nat)
  | zone (n : Nat)
deriving DecidableEq, Repr, Inhabited

/-- What ISOLATE asks for (R13). -/
inductive IsolationAsk where
  | temporary (minutes : Nat)
  | standing
deriving DecidableEq, Repr, Inhabited

/-- What ACCEPT_ALARM names (R69). `none` is a code that is no kind, or no class, of R64. -/
inductive AcceptTarget where
  | entry (kind : Option AlarmKind) (obj : Obj)
  | cls (c : Option AlarmClass)
deriving DecidableEq, Repr, Inhabited

/-- The fields of a configuring CFG_POINT (R9). `none` for the kind is a kind outside the eight. -/
structure PointSetting where
  kind : Option Kind
  zone : Nat
  cls : Option CallClass
deriving DecidableEq, Repr, Inhabited

/-- The fields of CFG_ZONE (R41), and the configuration part of a zone record. -/
structure ZoneSetting where
  group : Nat
  day : Nat
  night : Nat
  coincidence : Bool
  investigation : Bool
deriving DecidableEq, Repr, Inhabited

/-- The five values of a profile (R27). -/
structure ProfileValues where
  p : Nat
  a : Nat
  k : Nat
  h : Nat
  r : Nat
deriving DecidableEq, Repr, Inhabited

/-- The fields of a configuring CFG_DOOR (R92). `none` for the exit input mode is a value outside the three. -/
structure DoorSetting where
  point : Nat
  egress : Bool
  publicDoor : Bool
  holder : Bool
  releaseTime : Nat
  allowance : Nat
  exitMode : Option ExitMode
  relock : Bool
deriving DecidableEq, Repr, Inhabited

/-- The fields of a configuring CFG_PAIR (R113). -/
structure PairSetting where
  doorX : Nat
  doorY : Nat
  dead : Nat
  wait : Nat
deriving DecidableEq, Repr, Inhabited

/-- The fields of a configuring CFG_EXIT (R145). -/
structure ExitSetting where
  door : Option Nat
  zone : Option Nat
deriving DecidableEq, Repr, Inhabited

/-- A route entry as CFG_SIGN gives it (R149). `none` for the face is a value outside the eight. -/
structure RouteSetting where
  exit : Nat
  face : Option Face
  path : List Nat
deriving DecidableEq, Repr, Inhabited

/-- The fields of a configuring CFG_SIGN (R149). -/
structure SignSetting where
  point : Nat
  face : Option Face
  entries : List RouteSetting
  sequence : Option Nat
  phase : Nat
deriving DecidableEq, Repr, Inhabited

/-- A step as CFG_SEQUENCE gives it (R152). `none` for the kind is a value outside ROUTE and DARK. -/
structure StepSetting where
  kind : Option StepKind
  duration : Nat
deriving DecidableEq, Repr, Inhabited

/-- The fields of a CFG_LAMP that gives a record (R156). -/
structure LampSetting where
  group : Nat
  maintained : Bool
deriving DecidableEq, Repr, Inhabited

/-- The commands of the part. A request carries the tag of its frame (R163). Object numbers are plain numbers: a
number that names no object is refused by the request's own rule. -/
inductive Instr where
  | start
  | receiveByte (byte : Byte)
  | frameGapTimeout
  | unknownKind (kind tag : Byte)
  | transmitFrameEnd
  | standingAreaWriteDone
  | saveDone (good : Bool)
  | getSummary (tag : Byte)
  | getPoint (tag : Byte) (point : Nat)
  | getZone (tag : Byte) (zone : Nat)
  | getGroup (tag : Byte) (group : Nat)
  | getDoor (tag : Byte) (door : Nat)
  | getPair (tag : Byte) (pair : Nat)
  | getCalls (tag : Byte)
  | getSign (tag : Byte) (sign : Nat)
  | getExit (tag : Byte) (exit : Nat)
  | getLampGroup (tag : Byte) (group : Nat)
  | getAlarms (tag : Byte) (page : Nat)
  | cfgPoint (tag : Byte) (point : Nat) (setting : Option PointSetting)
  | cfgZone (tag : Byte) (zone : Nat) (setting : ZoneSetting)
  | cfgProfile (tag : Byte) (profile : Nat) (values : ProfileValues)
  | cfgGroup (tag : Byte) (group exitTime : Nat) (powerOn : Option Mode)
  | cfgDoor (tag : Byte) (door : Nat) (setting : Option DoorSetting)
  | cfgPair (tag : Byte) (pair : Nat) (setting : Option PairSetting)
  | cfgExit (tag : Byte) (exit : Nat) (setting : Option ExitSetting)
  | cfgSign (tag : Byte) (sign : Nat) (setting : Option SignSetting)
  | cfgSequence (tag : Byte) (sequence first count : Nat) (steps : List StepSetting)
  | cfgLamp (tag : Byte) (point : Nat) (setting : Option LampSetting)
  | cfgLampGroup (tag : Byte) (group length : Nat)
  | saveSettings (tag : Byte)
  | isolate (tag : Byte) (target : Target) (ask : IsolationAsk)
  | restoreIsolation (tag : Byte) (target : Target)
  | acceptFire (tag : Byte) (zone : Nat)
  | confirmFire (tag : Byte) (zone : Nat)
  | silence (tag : Byte)
  | resound (tag : Byte)
  | fireReset (tag : Byte)
  | stageSegment (tag : Byte) (group : Nat) (target : Option Mode) (minutes : Nat) (repeats : Bool)
  | setMode (tag : Byte) (group : Nat) (mode : Option Mode)
  | releaseDoor (tag : Byte) (door : Nat) (seconds : Option Nat)
  | holdDoor (tag : Byte) (door : Nat)
  | lockDoor (tag : Byte) (door : Nat)
  | doorRestore (tag : Byte)
  | grantPassage (tag : Byte) (zones : List Nat) (duration : Nat)
  | endPassage (tag : Byte) (number : Nat)
  | answerCall (tag : Byte) (number : Nat)
  | holdCall (tag : Byte) (number : Nat)
  | endCall (tag : Byte) (number : Nat)
  | blockExit (tag : Byte) (exit : Nat)
  | unblockExit (tag : Byte) (exit : Nat)
  | startTest (tag : Byte) (group : Nat)
  | suspendTest (tag : Byte) (group : Nat)
  | resumeTest (tag : Byte) (group : Nat)
  | stopTest (tag : Byte) (group : Nat)
  | acceptAlarm (tag : Byte) (target : AcceptTarget)
  | restart (tag : Byte)
  | scanStart (loop : LoopId)
  | pointReply (loop : LoopId) (answer : Answer)
  | replyWindowExpiry (loop : LoopId)
  | startUpHoldEnd
  | driftChance (point : Nat)
  | heatWindowCapture (point : Nat)
  | acceptTimerExpiry (zone : Nat)
  | investigationTimerExpiry (zone : Nat)
  | pointIsolationExpiry (point : Nat)
  | zoneIsolationExpiry (zone : Nat)
  | lineInputSample (evacIn mainsOk : Bool)
  | evacInChange (active : Bool)
  | mainsOkChange (present : Bool)
  | segmentExpiry (group : Nat)
  | exitTimeExpiry (group : Nat)
  | retryTimerExpiry (group : Nat)
  | releaseTimerExpiry (door : Nat)
  | graceTimerExpiry (door : Nat)
  | closeIgnoreWindowEnd (door : Nat)
  | allowanceTimerExpiry (door : Nat)
  | quietTimerExpiry (door : Nat)
  | pendingWaitExpiry (pair : Nat)
  | gmQuietTimerExpiry
  | grantExpiry (number : Nat)
  | offerTimerExpiry (number : Nat)
  | limitTimerExpiry (number : Nat)
  | sequenceStep (sign : Nat)
  | suspensionLimit (group : Nat)
  | testCompleted (group : Nat)
  | rechargeExpiry (group : Nat)
deriving DecidableEq, Repr, Inhabited

end Sys2Proof
end

