-- ==== Sys2Proof/Machine/Records.lean ====
section
/-! DEFINITION. The records the twelve blocks keep, the messages of the control link, and the contents of the store. -/

namespace Sys2Proof.Machine

/-! ## Messages: status codes -/

/-- Status codes, in order of value from 00h (12, section 12.5). -/
inductive Status where
  | ok | okClamped | pending | busy | unknownKind | noObject | badValue | wrongState | evacuating | interlocked
  | recharging | mainsAbsent | sounding | full
deriving DecidableEq, Repr, Inhabited

/-! ## Field loops and the point table (01) -/

/-- Point health (R4). -/
inductive Health where
  | unknown | normal | missing | wrongKind
deriving DecidableEq, Repr, Inhabited

/-- Isolation of a point or a zone: NONE, TEMPORARY with minutes remaining, or STANDING (R13, R49). -/
inductive Isolation where
  | none
  | temporary (minutes : Countdown)
  | standing
deriving DecidableEq, Repr, Inhabited

/-- The mode a luminaire is commanded to (R157). -/
inductive LampMode where
  | off | on | emergency | test
deriving DecidableEq, Repr, Inhabited

/-- The holder magnet's command (R107). -/
inductive Holder where
  | drop | hold
deriving DecidableEq, Repr, Inhabited

/-- The two speech channels (09). -/
inductive Channel where
  | one | two
deriving DecidableEq, Repr, Inhabited

/-- The indicator of a CALL point (R131). -/
inductive Indicator where
  | idle | queued | wait | offered | connected | held
deriving DecidableEq, Repr, Inhabited

/-- The output word a poll carries, by kind (01, section 1.4). -/
inductive OutWord where
  | empty
  | alarm (lit : Bool)
  | door (lock : Lock) (holder : Holder)
  | call (indicator : Indicator) (channel : Option Channel)
  | lamp (mode : LampMode)
  | sign (face : Face)
deriving DecidableEq, Repr, Inhabited

/-- The configuration part of a point record (01, section 1.1). -/
structure PointCfg where
  configured : Bool
  kind : Kind
  zone : Nat
  cls : Option CallClass
deriving DecidableEq, Repr, Inhabited

/-- A point record (01, section 1.1). -/
structure Point where
  cfg : PointCfg
  health : Health
  misses : Nat
  isolation : Isolation
  lastInput : Option Input
  word : OutWord
  deferred : Option Nat
deriving DecidableEq, Repr, Inhabited

/-- The configuration of a point that has none (R19). -/
def PointCfg.unused : PointCfg := ⟨false, .smoke, 0, none⟩

/-- A point record of configuration `c` in its state after start (R11, R19), carrying `w`. -/
def Point.fresh (c : PointCfg) (w : OutWord) : Point := ⟨c, .unknown, 0, .none, none, w, none⟩

/-- An exchange in progress (R3): the point polled and the output word as it stood when the exchange opened. -/
structure Exchange where
  point : Nat
  word : OutWord
deriving DecidableEq, Repr, Inhabited

/-- A loop scanner (R1): the address it will poll next in the present scan, and the exchange now open. -/
structure Scanner where
  position : Option Nat
  exchange : Option Exchange
deriving DecidableEq, Repr, Inhabited

/-- What the FLS owns. -/
structure Loops where
  points : Table Point 256
  scanA : Scanner
  scanB : Scanner
deriving DecidableEq, Repr

/-! ## Detection (02) -/

/-- Detector states (02, section 2.4). -/
inductive DetState where
  | quiet | preAlarm | confirming | alarm
deriving DecidableEq, Repr, Inhabited

/-- A detector record (02, section 2.1). `dirtyDue` says that the point has left effective isolation with dirty yes
and DETECTOR_DIRTY is to be raised at its next sample (R24, R35). -/
structure Detector where
  state : DetState
  k : Nat
  profile : Nat
  history : List Nat
  ref : Option Nat
  dirty : Bool
  drift : Nat
  w : Option Nat
  window : Nat
  lastF : Option Nat
  lastC : Option Nat
  dirtyDue : Bool
deriving DecidableEq, Repr, Inhabited

/-- A detector record in its creation state, judged by profile `p` (R20). -/
def Detector.created (p : Nat) : Detector := ⟨.quiet, 0, p, [], none, false, 0, none, 0, none, none, false⟩

/-- A profile: working copy, pending copy and pending flag (R27). -/
structure Profile where
  working : ProfileValues
  pending : ProfileValues
  flag : Bool
deriving DecidableEq, Repr, Inhabited

/-- The delivery values of a profile (R27). -/
def profileDelivery : ProfileValues := ⟨45, 60, 4, 78, 5⟩

/-- A profile as it stands after start with working values `v` (R27). -/
def Profile.loaded (v : ProfileValues) : Profile := ⟨v, v, false⟩

/-- What the DU owns. -/
structure Detection where
  detectors : Table (Option Detector) 256
  profiles : Table Profile 8
deriving DecidableEq, Repr

/-! ## Zones and evacuation (03) -/

/-- Fire states of a zone (03, section 3.2). -/
inductive FireState where
  | normal | first | investigate | confirmed
deriving DecidableEq, Repr, Inhabited

/-- A zone timer: ACCEPT or INVESTIGATION with seconds remaining (03, section 3.1). -/
inductive ZoneTimer where
  | accept (left : Countdown)
  | investigation (left : Countdown)
deriving DecidableEq, Repr, Inhabited

/-- A zone record (03, section 3.1). -/
structure Zone where
  cfg : ZoneSetting
  isolation : Isolation
  fire : FireState
  count : Nat
  latched : List Nat
  first : Option Nat
  timer : Option ZoneTimer
deriving DecidableEq, Repr, Inhabited

/-- The zone configuration for a bad image (R40). -/
def zoneSettingEmpty : ZoneSetting := ⟨0, 0, 0, false, false⟩

/-- A zone record in its state after start (R40). -/
def Zone.fresh (c : ZoneSetting) : Zone := ⟨c, .none, .normal, 0, [], none, none⟩

/-- The filter of a line input (R52): the filtered level and the count of consecutive samples that disagree. -/
structure LineFilter where
  level : Bool
  count : Nat
deriving DecidableEq, Repr, Inhabited

/-- What the FCC owns. EVACUATE and the fire outputs are not held: they are computed (R54 to R56). -/
structure Fire where
  zones : Table Zone 48
  evacIn : LineFilter
  mainsOk : LineFilter
  silenced : Bool
deriving DecidableEq, Repr

/-! ## The alarm list (04) -/

/-- An entry of the alarm list (04, section 4.1). Its position is its place in the list. -/
structure Entry where
  kind : AlarmKind
  obj : Obj
  active : Bool
  accepted : Bool
  first : Nat
  last : Nat
  occurrences : Nat
deriving DecidableEq, Repr, Inhabited

/-- What the AL owns: the entries, oldest first, and the three overflow marks. FAULT_OUT and GUARD_OUT are computed
(R72). -/
structure Alarms where
  entries : List Entry
  markFire : Bool
  markSecurity : Bool
  markFault : Bool
deriving DecidableEq, Repr, Inhabited

/-! ## Regimes (05) -/

/-- A segment as it is staged: target mode, length in minutes, repeat (05, section 5.1). -/
structure Segment where
  target : Mode
  minutes : Nat
  repeats : Bool
deriving DecidableEq, Repr, Inhabited

/-- The current segment with its seconds remaining. -/
structure Current where
  segment : Segment
  left : Countdown
deriving DecidableEq, Repr, Inhabited

/-- The configuration part of a group record. -/
structure GroupCfg where
  exitTime : Nat
  powerOn : Mode
deriving DecidableEq, Repr, Inhabited

/-- A schedule group record (05, section 5.1). `setting` is the procedure: absent for STEADY, the exit seconds
remaining for SETTING. -/
structure Group where
  cfg : GroupCfg
  mode : Mode
  setting : Option Countdown
  setWanted : Bool
  retry : Option Countdown
  current : Option Current
  staged : Option Segment
deriving DecidableEq, Repr, Inhabited

/-- The group configuration for a bad image (R75). -/
def GroupCfg.empty : GroupCfg := ⟨60, .openHours⟩

/-- A group record in its state after start (R75). -/
def Group.fresh (c : GroupCfg) : Group := ⟨c, c.powerOn, none, false, none, none, none⟩

/-! ## Doors and interlock pairs (06, 07) -/

/-- Who started a TIMED cause (06, section 6.1). -/
inductive Origin where
  | host | exit
deriving DecidableEq, Repr, Inhabited

/-- A door's release causes (06, section 6.2). TIMED is present with its origin, or absent. -/
structure Causes where
  evac : Bool
  schedule : Bool
  hostHold : Bool
  timed : Option Origin
  exitLevel : Bool
deriving DecidableEq, Repr, Inhabited

/-- The class of a forced opening (R103). -/
inductive ForcedClass where
  | intrusion | forcing
deriving DecidableEq, Repr, Inhabited

/-- The configuration part of a door record (06, section 6.1). -/
structure DoorCfg where
  point : Option Nat
  egress : Bool
  publicDoor : Bool
  holder : Bool
  releaseTime : Nat
  allowance : Nat
  exitMode : ExitMode
  relock : Bool
deriving DecidableEq, Repr, Inhabited

/-- A door record (06, section 6.1). `afresh` says that the point has left effective isolation and has not yet given
the good reply at which the door's conditions are taken afresh (R106); `unread` that the record was made anew and no good
reply has reached it since, so that the next one only establishes the level of the exit input (R99). -/
structure Door where
  cfg : DoorCfg
  inUseRelease : Nat
  inUseAllowance : Nat
  causes : Causes
  openedTimed : Bool
  contact : Option Contact
  feedback : Option Lock
  exitPressed : Option Bool
  mismatch : Nat
  forced : Option ForcedClass
  heldOpen : Bool
  lockFault : Bool
  release : Option Countdown
  allow : Option Countdown
  grace : Option Countdown
  ignore : Option Countdown
  afresh : Bool
  unread : Bool
deriving DecidableEq, Repr, Inhabited

/-- No release cause. -/
def Causes.none : Causes := ⟨false, false, false, Option.none, false⟩

/-- The configuration of a door that has none (R91). -/
def DoorCfg.unused : DoorCfg := ⟨none, false, false, false, 1, 5, .off, false⟩

/-- A door record made anew with the causes `cs` and nothing yet heard from its point (R91). -/
def Door.fresh (c : DoorCfg) (cs : Causes) : Door :=
  ⟨c, c.releaseTime, c.allowance, cs, false, none, none, none, 0, none, false, false, none, none, none, none, false, true⟩

/-- The quiet state of a paired door (07, section 7.1). -/
inductive Quiet where
  | notQuiet
  | quiet (left : Countdown)
  | settled
deriving DecidableEq, Repr, Inhabited

/-- The cause a pending request waits to add (07, section 7.1). -/
inductive PendingCause where
  | hostHold
  | timed (seconds : Nat) (origin : Origin)
deriving DecidableEq, Repr, Inhabited

/-- A request in a pair's pending slot. -/
structure PendingRequest where
  door : Nat
  cause : PendingCause
  wait : Countdown
deriving DecidableEq, Repr, Inhabited

/-- An interlock pair record (07, section 7.1); its configuration is absent when the pair is not configured. -/
structure Pair where
  cfg : Option PairSetting
  quietX : Quiet
  quietY : Quiet
  slot : Option PendingRequest
  breach : Bool
deriving DecidableEq, Repr, Inhabited

/-- A pair record in its state after start (R112). -/
def Pair.fresh (c : Option PairSetting) : Pair := ⟨c, .notQuiet, .notQuiet, none, false⟩

/-- What the DC owns: the doors, the release latch's two causes, the two counts of scans since start, the pairs. -/
structure Doors where
  doors : Table Door 32
  latchEvac : Bool
  latchStartUp : Bool
  scansA : Nat
  scansB : Nat
  pairs : Table Pair 8
deriving DecidableEq, Repr

/-! ## Guarding (08) -/

/-- A passage grant (08, section 8.5). -/
structure Grant where
  number : Nat
  zones : List Nat
  duration : Nat
  left : Countdown
  start : Nat
deriving DecidableEq, Repr, Inhabited

/-- What the GM owns: the grant table and the next grant number, the quiet timer, one intrusion mark per PRESENCE
point, and the two marks of each door. -/
structure Guard where
  grants : Table (Option Grant) 4
  nextGrant : Nat
  quiet : Option Countdown
  presence : Table Bool 256
  doorIntrusion : Table Bool 32
  doorExit : Table Bool 32
deriving DecidableEq, Repr

/-! ## Visitor calls (09) -/

/-- The state of a call, with the channel, timers and connected time it holds in that state (09, section 9.1). -/
inductive CallState where
  | waiting
  | offered (channel : Channel) (left : Countdown)
  | connected (channel : Channel) (since : Nat) (left : Countdown)
  | held
deriving DecidableEq, Repr, Inhabited

/-- A call record (09, section 9.1). -/
structure Call where
  number : Nat
  point : Nat
  cls : CallClass
  admission : Nat
  state : CallState
  unanswered : Nat
  escalated : Bool
deriving DecidableEq, Repr, Inhabited

/-- What the CQC owns: the queue, in order, and the next call number. A channel is free when no record holds it. -/
structure Calls where
  queue : List Call
  next : Nat
deriving DecidableEq, Repr, Inhabited

/-! ## Routes and signs (10) -/

/-- An exit record (10, section 10.1); its configuration is absent when the exit is not configured. -/
structure Exit where
  cfg : Option ExitSetting
  blocked : Bool
  usable : Bool
deriving DecidableEq, Repr, Inhabited

/-- A route entry of a sign (10, section 10.2). -/
structure RouteEntry where
  exit : Nat
  face : Face
  path : List Nat
deriving DecidableEq, Repr, Inhabited

/-- The configuration of a sign that has a point. -/
structure SignCfg where
  point : Nat
  face : Face
  entries : List RouteEntry
  sequence : Option Nat
  phase : Nat
deriving DecidableEq, Repr, Inhabited

/-- The step of its sequence a sign is showing: step index and step scans remaining. -/
structure StepState where
  index : Nat
  scans : Nat
deriving DecidableEq, Repr, Inhabited

/-- A sign record (10, section 10.2); its configuration is absent when the sign is not configured. -/
structure Sign where
  cfg : Option SignCfg
  chosen : Option Nat
  step : Option StepState
  fault : Bool
deriving DecidableEq, Repr, Inhabited

/-- A sequence: its start step and its count (R152). -/
structure Sequence where
  first : Nat
  count : Nat
deriving DecidableEq, Repr, Inhabited

/-- A step of the step store (R152). -/
structure Step where
  kind : StepKind
  duration : Nat
deriving DecidableEq, Repr, Inhabited

/-- What the RSC owns. -/
structure Routes where
  exits : Table Exit 12
  signs : Table Sign 64
  sequences : Table Sequence 16
  steps : Table Step 64
deriving DecidableEq, Repr

/-! ## Luminaires (11) -/

/-- A lamp's result in its group's last test. -/
inductive Outcome where
  | none | pass | fail
deriving DecidableEq, Repr, Inhabited

/-- A lamp's battery fault (11, section 11.1). -/
inductive BatteryFault where
  | none | failed | test
deriving DecidableEq, Repr, Inhabited

/-- A lamp record (11, section 11.1), held at its point's number. -/
structure Lamp where
  cfg : LampSetting
  included : Bool
  outcome : Outcome
  lampFault : Bool
  battery : BatteryFault
deriving DecidableEq, Repr, Inhabited

/-- A lamp record in its start state (R156). -/
def Lamp.fresh (c : LampSetting) : Lamp := ⟨c, false, .none, false, .none⟩

/-- Where a group's duration test stands (11, section 11.2). -/
inductive TestState where
  | idle | running | suspended | recharge
deriving DecidableEq, Repr, Inhabited

/-- How a group's last test ended. -/
inductive TestResult where
  | none | pass | fail | aborted
deriving DecidableEq, Repr, Inhabited

/-- A lamp group's duration-test record (11, section 11.2). `suspendedTicks` is the part of a second of suspension
already elapsed. -/
structure LampGroup where
  length : Nat
  state : TestState
  remaining : Countdown
  suspended : Nat
  suspendedTicks : Nat
  recharge : Option Countdown
  last : TestResult
deriving DecidableEq, Repr, Inhabited

/-- A lamp group in its state after start (R159). -/
def LampGroup.fresh (length : Nat) : LampGroup := ⟨length, .idle, ⟨0, 0⟩, 0, 0, none, .none⟩

/-- What the LC owns. -/
structure Lamps where
  lamps : Table (Option Lamp) 256
  groups : Table LampGroup 4
deriving DecidableEq, Repr

/-! ## The store (12, section 12.6) -/

/-- The configuration image (R169). -/
structure Image where
  points : Table PointCfg 256
  zones : Table ZoneSetting 48
  profiles : Table ProfileValues 8
  groups : Table GroupCfg 8
  doors : Table DoorCfg 32
  pairs : Table (Option PairSetting) 8
  exits : Table (Option ExitSetting) 12
  signs : Table (Option SignCfg) 64
  sequences : Table Sequence 16
  steps : Table Step 64
  lamps : Table (Option LampSetting) 256
  lengths : Table Nat 4
deriving DecidableEq, Repr

/-- The configuration every block takes for a bad image (R170, step 2, and the chapters it names). -/
def Image.empty : Image :=
  ⟨.fill 256 .unused, .fill 48 zoneSettingEmpty, .fill 8 profileDelivery, .fill 8 .empty, .fill 32 .unused, .fill 8 none,
    .fill 12 none, .fill 64 none, .fill 16 ⟨0, 1⟩, .fill 64 ⟨.route, 1⟩, .fill 256 none, .fill 4 3600⟩

/-- The contents of the standing-isolation area (R16): point numbers and zone numbers. -/
structure Area where
  points : List Nat
  zones : List Nat
deriving DecidableEq, Repr, Inhabited

/-- What the SS owns. The first four fields are nonvolatile: the image and the area, each with whether its check value
is good. `saving` is the copy a save in progress is writing, `areaWrite` the area a write in progress is writing, and
the last two are the settings and standing-isolation states of the last start. -/
structure Store where
  image : Image
  imageGood : Bool
  area : Area
  areaGood : Bool
  saving : Option Image
  areaWrite : Option Area
  settingsLoaded : Bool
  standingLoaded : Bool
deriving DecidableEq, Repr

/-! ## Reports (12, section 12.5; the fields as the owning chapters list them) -/

/-- Causes of a ZONE_FIRE report (R43). -/
inductive FireCause where
  | detector | secondDetector | manual | accept | host | timer | reset
deriving DecidableEq, Repr, Inhabited

/-- Causes of a GROUP_MODE report (R77). -/
inductive ModeCause where
  | segment | repeated | host | setting | retry
deriving DecidableEq, Repr, Inhabited

/-- Causes of a SEGMENT report (R80). -/
inductive SegmentCause where
  | taken | repeated | runOut
deriving DecidableEq, Repr, Inhabited

/-- Reasons for which a setting procedure fails, with the doors or the zones found (R85). -/
inductive FailReason where
  | fire (zones : List Nat)
  | doorOpen (doors : List Nat)
  | evacuation
  | cancelled
deriving DecidableEq, Repr, Inhabited

/-- Events of a DOOR_STATE report (R94). -/
inductive DoorEvent where
  | request | exitInput | schedule | timer | contact | feedback | latch | holder | isolation | config
deriving DecidableEq, Repr, Inhabited

/-- The results of a PASS_RESULT report, with the reason for CANCELLED (R116). -/
inductive PassResult where
  | granted | refused | cancelledReplaced | cancelledLock | cancelledLatch | cancelledConfig
deriving DecidableEq, Repr, Inhabited

/-- The state a CALL_STATE report gives (R143). -/
inductive CallShown where
  | waiting | offered | connected | held | deferred | removed
deriving DecidableEq, Repr, Inhabited

/-- Causes of a CALL_STATE report (R143). -/
inductive CallCause where
  | admitted | deferred | displaced | offered | answered | offerExpired | held | preempted | ended | limit
deriving DecidableEq, Repr, Inhabited

/-- Causes of a ROUTE_CHANGE report (R150). -/
inductive RouteCause where
  | zone | exit | config
deriving DecidableEq, Repr, Inhabited

/-- Causes of a LAMP_TEST report (R159). -/
inductive TestCause where
  | started | resumed | suspended | lampFailed | completed | aborted | recharged
deriving DecidableEq, Repr, Inhabited

/-- The changes an ALARM_ENTRY report names (R71). -/
inductive AlarmChange where
  | new | recurred | notPlaced | cleared
deriving DecidableEq, Repr, Inhabited

/-- An isolation as it is reported: without the part of a minute elapsed. -/
inductive IsolationView where
  | none
  | temporary (minutes : Nat)
  | standing
deriving DecidableEq, Repr, Inhabited

/-- The body of a report, by kind. -/
inductive ReportBody where
  | started (restarted settingsLoaded standingLoaded : Bool)
  | pointState (point : Nat) (health : Health)
  | detectorState (point : Nat) (state : DetState) (c profile : Nat)
  | profileApplied (profile : Nat)
  | zoneFire (zone : Nat) (fire : FireState) (cause : FireCause) (first : Option Nat) (count : Nat)
  | evacuation (active byZones byLine silenced : Bool)
  | alarmEntry (change : AlarmChange) (kind : AlarmKind) (obj : Obj) (position : Option Nat) (entry : Option Entry)
      (removed : Bool)
  | groupMode (group : Nat) (mode : Mode) (setting : Bool) (cause : ModeCause)
  | segment (group : Nat) (cause : SegmentCause) (current : Option Current) (staged : Option Segment)
  | setResult (group : Nat) (failed : Option FailReason) (setWanted : Bool) (retry : Option Nat)
  | doorState (door : Nat) (point : Option Nat) (causes : Causes) (lock : Lock) (holder : Holder)
      (contact : Option Contact) (feedback : Option Lock) (forced : Option ForcedClass) (heldOpen lockFault : Bool)
      (breach : Bool) (event : DoorEvent)
  | latchState (evac startUp : Bool) (evacChanged gained : Bool)
  | passResult (pair door : Nat) (cause : PendingCause) (result : PassResult)
  | callState (number : Option Nat) (point : Nat) (cls : CallClass) (shown : CallShown) (channel : Option Channel)
      (time : Nat) (unanswered : Nat) (escalated : Bool) (cause : CallCause)
  | routeChange (sign point : Nat) (chosen : Option Nat) (chosenFace shownFace : Face) (cause : RouteCause)
  | lampTest (group : Nat) (state : TestState) (cause : TestCause) (remaining failed : Nat) (point : Option Nat)
      (result : TestResult)
  | isolation (target : Target) (isolation : IsolationView)
  | grant (number slot : Nat) (zones : List Nat) (expired : Bool)
  | saveDone (good : Bool)
deriving DecidableEq, Repr, Inhabited

/-- A report record: the part time of its event and its body (R167). -/
structure Report where
  time : Nat
  body : ReportBody
deriving DecidableEq, Repr, Inhabited

/-! ## Replies -/

/-- A detector as GET_POINT shows it: the state, drift values and last sample R39 lists. -/
structure DetectorView where
  state : DetState
  k : Nat
  profile : Nat
  history : List Nat
  ref : Option Nat
  dirty : Bool
  drift : Nat
  w : Option Nat
  window : Nat
  lastF : Option Nat
  lastC : Option Nat
deriving DecidableEq, Repr, Inhabited

/-- What GET_POINT returns (R12, R39). -/
structure PointView where
  cfg : PointCfg
  health : Health
  misses : Nat
  isolation : IsolationView
  effective : Bool
  lastInput : Option Input
  word : OutWord
  deferred : Option Nat
  detector : Option DetectorView
deriving DecidableEq, Repr, Inhabited

/-- What GET_ZONE returns (R62). `timer` is the zone timer: whether it is INVESTIGATION, and its seconds remaining. -/
structure ZoneView where
  cfg : ZoneSetting
  mode : Mode
  isolation : IsolationView
  fire : FireState
  count : Nat
  first : Option Nat
  latched : List Nat
  timer : Option (Bool × Nat)
  evacIn : Bool
  mainsOk : Bool
  evacuate : Bool
  silenced : Bool
  sounderOut : Bool
  alertOut : Bool
  evacOut : Bool
deriving DecidableEq, Repr, Inhabited

/-- What GET_GROUP returns (R89). `current` is the current segment and its seconds remaining. -/
structure GroupView where
  mode : Mode
  setting : Option Nat
  cfg : GroupCfg
  setWanted : Bool
  retry : Option Nat
  current : Option (Segment × Nat)
  staged : Option Segment
  zones : List (Nat × FireState)
  held : Bool
deriving DecidableEq, Repr, Inhabited

/-- What GET_DOOR returns (R111). -/
structure DoorView where
  cfg : DoorCfg
  zone : Nat
  mode : Mode
  setting : Bool
  inUseRelease : Nat
  inUseAllowance : Nat
  causes : Causes
  openedTimed : Bool
  release : Option Nat
  allow : Option Nat
  grace : Option Nat
  lock : Lock
  holder : Holder
  contact : Option Contact
  feedback : Option Lock
  exitPressed : Option Bool
  mismatch : Nat
  forced : Option ForcedClass
  heldOpen : Bool
  lockFault : Bool
  jammed : Bool
  pair : Option Nat
  latchEvac : Bool
  latchStartUp : Bool
  scansA : Nat
  scansB : Nat
deriving DecidableEq, Repr, Inhabited

/-- One door of a GET_PAIR reply: its quiet state (settled or not, and the quiet timer's seconds remaining), its
causes, its contact and its egress role (R120). -/
structure PairDoorView where
  settled : Bool
  quiet : Option Nat
  causes : Causes
  contact : Option Contact
  egress : Bool
deriving DecidableEq, Repr, Inhabited

/-- What GET_PAIR returns (R120). -/
structure PairView where
  cfg : PairSetting
  x : PairDoorView
  y : PairDoorView
  slot : Option (Nat × PendingCause × Nat)
  breach : Bool
  latchEvac : Bool
  latchStartUp : Bool
deriving DecidableEq, Repr, Inhabited

/-- One record of a GET_CALLS reply, with the seconds remaining of its timers (R143). -/
structure CallView where
  number : Nat
  point : Nat
  cls : CallClass
  admission : Nat
  shown : CallShown
  channel : Option Channel
  offerLeft : Option Nat
  unanswered : Nat
  escalated : Bool
  connectedAt : Option Nat
  limitLeft : Option Nat
deriving DecidableEq, Repr, Inhabited

/-- One deferred press of a GET_CALLS reply (R143). -/
structure DeferredView where
  point : Nat
  cls : CallClass
  pressed : Nat
  effective : Bool
deriving DecidableEq, Repr, Inhabited

/-- What GET_CALLS returns (R143). -/
structure CallsView where
  records : List CallView
  channelOne : Option Nat
  channelTwo : Option Nat
  deferred : List DeferredView
  next : Nat
  evacuate : Bool
deriving DecidableEq, Repr, Inhabited

/-- What GET_SIGN returns (R155). `entries` gives, for each route entry, whether its exit is usable and whether its
path holds a CONFIRMED zone. -/
structure SignView where
  cfg : SignCfg
  entries : List (Bool × Bool)
  chosen : Option Nat
  chosenFace : Face
  shownFace : Face
  step : Option StepState
  fault : Bool
  health : Health
  isolation : IsolationView
deriving DecidableEq, Repr, Inhabited

/-- What GET_EXIT returns (R155). -/
structure ExitView where
  cfg : Option ExitSetting
  blocked : Bool
  usable : Bool
  zoneFire : Option FireState
  doorJammed : Option Bool
  signs : List Nat
deriving DecidableEq, Repr, Inhabited

/-- One lamp of a GET_LAMP_GROUP reply (R162). -/
structure LampView where
  point : Nat
  maintained : Bool
  included : Bool
  outcome : Outcome
  lampFault : Bool
  battery : BatteryFault
  word : OutWord
  health : Health
  isolation : IsolationView
deriving DecidableEq, Repr, Inhabited

/-- What GET_LAMP_GROUP returns (R162). -/
structure LampGroupView where
  length : Nat
  state : TestState
  remaining : Nat
  suspended : Nat
  recharge : Option Nat
  last : TestResult
  mainsOk : Bool
  lamps : List LampView
deriving DecidableEq, Repr, Inhabited

/-- What GET_ALARMS returns (R73). -/
structure AlarmsView where
  fireCount : Nat
  otherCount : Nat
  faultOut : Bool
  guardOut : Bool
  markFire : Bool
  markSecurity : Bool
  markFault : Bool
  page : List (Nat × Entry)
deriving DecidableEq, Repr, Inhabited

/-- One occupied slot of the grant table in a GET_SUMMARY reply (R129). -/
structure GrantView where
  slot : Nat
  number : Nat
  zones : List Nat
  left : Nat
deriving DecidableEq, Repr, Inhabited

/-- What GET_SUMMARY returns (R172). `points` counts the configured points of each kind, in the order of the kinds. -/
structure SummaryView where
  version : Byte
  partTime : Nat
  settingsLoaded : Bool
  standingLoaded : Bool
  saving : Bool
  evacuate : Bool
  silenced : Bool
  evacIn : Bool
  mainsOk : Bool
  sounderOut : Bool
  alertOut : Bool
  evacOut : Bool
  faultOut : Bool
  guardOut : Bool
  latchEvac : Bool
  latchStartUp : Bool
  zonesFirst : Nat
  zonesInvestigate : Nat
  zonesConfirmed : Nat
  calls : Nat
  fireEntries : Nat
  otherEntries : Nat
  points : List Nat
  grants : List GrantView
  quiet : Option Nat
  discards : Nat
  reports : Nat
  lost : Bool
deriving DecidableEq, Repr, Inhabited

/-- The body of a reply after its status code, by what the request's rule says the reply carries. -/
inductive ReplyBody where
  | none
  | summary (v : SummaryView)
  | point (v : PointView)
  | zone (v : ZoneView)
  | group (v : GroupView)
  | door (v : DoorView)
  | pair (v : PairView)
  | calls (v : CallsView)
  | sign (v : SignView)
  | exit (v : ExitView)
  | lampGroup (v : LampGroupView)
  | alarms (v : AlarmsView)
  | profile (v : ProfileValues)
  | clamped (values : List Nat)
  | causes (cs : Causes)
  | latch (evac startUp : Bool)
  | staged (replaced taken : Bool) (current : Option Current) (slot : Option Segment)
  | grant (slot number left : Nat)
  | exitState (blocked usable : Bool)
  | accepted (accepted removed : Nat)
deriving DecidableEq, Repr, Inhabited

/-- A reply: the code and tag of its request, its status and its body (R165). -/
structure Reply where
  code : Byte
  tag : Byte
  status : Status
  body : ReplyBody
deriving DecidableEq, Repr, Inhabited

/-! ## The control link (12) -/

/-- A frame on the transmit path: a reply, or a report with the lost-reports mark it carries (R166, R167). -/
inductive OutFrame where
  | reply (r : Reply)
  | report (r : Report) (lost : Bool)
deriving DecidableEq, Repr, Inhabited

/-- A frame in the request holder (R165): its kind, tag and body as they arrived, or a request already known by its
fields. -/
inductive Held where
  | frame (kind tag : Byte) (body : List Byte)
  | request (i : Instr)
deriving DecidableEq, Repr, Inhabited

/-- What the CLP owns. `rx` is the frame being received, from its start byte on, and is empty in HUNTING. `reply` is the
reply waiting for the transmit path, `heldReply` one waiting for the end of a standing-isolation write. `startDue` says
that the reply to a RESTART has been sent and the start is to begin. -/
structure Link where
  rx : List Byte
  holder : List Held
  reply : Option Reply
  heldReply : Option Reply
  sending : Option OutFrame
  reports : List Report
  lost : Bool
  discards : Nat
  startDue : Bool
deriving DecidableEq, Repr, Inhabited

/-- Time (00_scope): part time and the ticks of the present second, and for each loop the ticks to the next scan start. -/
structure Clock where
  partTime : Nat
  ticks : Nat
  scanA : Nat
  scanB : Nat
deriving DecidableEq, Repr, Inhabited

end Sys2Proof.Machine
end

