-- ==== Sys2Proof/Config.lean ====
section
/-! DEFINITION. The tick of the model's clock, and the values the manual leaves open: constants without a body, of which
nothing can be proved. -/

namespace Sys2Proof

/-- Ticks in a second. DESIGN CHOICE (log 2): one tick is 50 ms, the interval at which the line inputs are sampled
(R52); the scan interval and the second are whole numbers of it. -/
def Config.ticksPerSecond : Nat := 20

/-- Ticks in a minute. -/
def Config.ticksPerMinute : Nat := 1200

/-- Ticks between the starts of two scans of one loop (R1): 0.5 s. -/
def Config.ticksPerScan : Nat := 10

/-- The device version, one byte (12, section 12.5): the manual gives no value (log 12). -/
opaque Config.deviceVersion : Byte

/-- The layout of request bodies: the request that a body of a request kind carries, or none where the body's length is
not what the kind's fields require (R165). The manual gives the fields of each request and no layout of them (log 10).
Arguments: kind, tag, body. -/
opaque Config.requestFields : Byte → Byte → List Byte → Option Instr

/-- The layout of a report body after the common header, for the kinds whose layout the manual does not give (log 11). -/
opaque Config.reportLayout : Machine.ReportBody → List Byte

/-- The layout of a reply body after its status, for the kinds whose layout the manual does not give (log 11). -/
opaque Config.replyLayout : Machine.ReplyBody → List Byte

end Sys2Proof
end

