-- ==== Sys2Proof/Machine/State.lean ====
section
/-! DEFINITION. The state of the part, the reasons a step could stop, and the state right after reset. -/

namespace Sys2Proof.Machine

/-- Everything the manual gives the part, block by block, and the queue of the commands that wait. -/
structure State where
  clock : Clock
  loops : Loops
  detection : Detection
  fire : Fire
  alarms : Alarms
  regimes : Table Group 8
  doors : Doors
  guard : Guard
  calls : Calls
  routes : Routes
  lamps : Lamps
  link : Link
  store : Store
  pending : List Instr
deriving DecidableEq, Repr

/-- The reasons for which a step stops with a fault. There are none: the manual names no condition in which the part
stops, every request it does not take is answered with a status code, and an event that finds nothing to act on changes
nothing. -/
inductive Fault where
deriving DecidableEq, Repr

/-- The reasons for which a step is refused. -/
inductive Refusal where
  /-- A command the model gives no meaning, raised by `exec` for an arm that has none (safe). No arm raises it. -/
  | notModelled (mnemonic : String)
deriving DecidableEq, Repr

/-- The SETTINGS_FAULT entry of a start with a bad image (R74). -/
def settingsFaultAtStart : Entry := ⟨.settingsFault, .none, true, false, 0, 0, 1⟩

/-- The part right after a power-on start that finds the store blank: both check values bad (log 3), so settings EMPTY
and standing isolations NONE (R170), every block in its state after start for a bad image, SETTINGS_FAULT in the alarm
list (R74), the STARTED report on the transmit path and the ALARM_ENTRY behind it (R166, R170). Each loop's first scan
is due (R19). -/
def State.reset : State where
  clock := ⟨0, 0, 0, 0⟩
  loops := ⟨.fill 256 (.fresh .unused .empty), ⟨none, none⟩, ⟨none, none⟩⟩
  detection := ⟨.fill 256 none, .fill 8 (.loaded profileDelivery)⟩
  fire := ⟨.fill 48 (.fresh zoneSettingEmpty), ⟨false, 0⟩, ⟨true, 0⟩, false⟩
  alarms := ⟨[settingsFaultAtStart], false, false, false⟩
  regimes := .fill 8 (.fresh .empty)
  doors := ⟨.fill 32 (.fresh .unused .none), false, true, 0, 0, .fill 8 (.fresh none)⟩
  guard := ⟨.fill 4 none, 1, none, .fill 256 false, .fill 32 false, .fill 32 false⟩
  calls := ⟨[], 1⟩
  routes := ⟨.fill 12 ⟨none, false, false⟩, .fill 64 ⟨none, none, none, false⟩, .fill 16 ⟨0, 1⟩, .fill 64 ⟨.route, 1⟩⟩
  lamps := ⟨.fill 256 none, .fill 4 (.fresh 3600)⟩
  link :=
    { rx := [], holder := [], reply := none, heldReply := none,
      sending := some (.report ⟨0, .started false false false⟩ false),
      reports := [⟨0, .alarmEntry .new .settingsFault .none (some 0) (some settingsFaultAtStart) false⟩],
      lost := false, discards := 0, startDue := false }
  store := ⟨.empty, false, ⟨[], []⟩, false, none, none, false, false⟩
  pending := []

end Sys2Proof.Machine
end

