-- ==== Sys2Proof/Machine/Ops.lean ====
section
/-! DEFINITION. The shared operations: reading and writing records, reports and replies, the transmit path, and the
alarm list's raise and end. -/

namespace Sys2Proof.Machine

/-! ## Records by number -/

def State.now (s : State) : Nat := s.clock.partTime

def State.point (s : State) (p : Nat) : Point := s.loops.points.get p

def State.putPoint (s : State) (p : Nat) (x : Point) : State := { s with loops.points := s.loops.points.put p x }

/-- A write of a point's output word by its owning block (R6). -/
def State.setWord (s : State) (p : Nat) (w : OutWord) : State := s.putPoint p { s.point p with word := w }

def State.detector (s : State) (p : Nat) : Option Detector := s.detection.detectors.get p

def State.putDetector (s : State) (p : Nat) (x : Option Detector) : State :=
  { s with detection.detectors := s.detection.detectors.put p x }

def State.profile (s : State) (n : Nat) : Profile := s.detection.profiles.get n

def State.putProfile (s : State) (n : Nat) (x : Profile) : State :=
  { s with detection.profiles := s.detection.profiles.put n x }

def State.zone (s : State) (z : Nat) : Zone := s.fire.zones.get z

def State.putZone (s : State) (z : Nat) (x : Zone) : State := { s with fire.zones := s.fire.zones.put z x }

def State.group (s : State) (g : Nat) : Group := s.regimes.get g

def State.putGroup (s : State) (g : Nat) (x : Group) : State := { s with regimes := s.regimes.put g x }

def State.door (s : State) (d : Nat) : Door := s.doors.doors.get d

def State.putDoor (s : State) (d : Nat) (x : Door) : State := { s with doors.doors := s.doors.doors.put d x }

def State.pair (s : State) (q : Nat) : Pair := s.doors.pairs.get q

def State.putPair (s : State) (q : Nat) (x : Pair) : State := { s with doors.pairs := s.doors.pairs.put q x }

def State.exit (s : State) (e : Nat) : Exit := s.routes.exits.get e

def State.putExit (s : State) (e : Nat) (x : Exit) : State := { s with routes.exits := s.routes.exits.put e x }

def State.sign (s : State) (n : Nat) : Sign := s.routes.signs.get n

def State.putSign (s : State) (n : Nat) (x : Sign) : State := { s with routes.signs := s.routes.signs.put n x }

def State.lamp (s : State) (p : Nat) : Option Lamp := s.lamps.lamps.get p

def State.putLamp (s : State) (p : Nat) (x : Option Lamp) : State := { s with lamps.lamps := s.lamps.lamps.put p x }

def State.lampGroup (s : State) (g : Nat) : LampGroup := s.lamps.groups.get g

def State.putLampGroup (s : State) (g : Nat) (x : LampGroup) : State :=
  { s with lamps.groups := s.lamps.groups.put g x }

/-- Applies `f` for each number of a list in turn. -/
def State.each (s : State) (ns : List Nat) (f : Nat → State → State) : State := ns.foldl (fun t n => f n t) s

/-! ## Where things are bound -/

/-- A number that names a point: 1–127 or 129–255 (00_scope). -/
def isPoint (p : Nat) : Bool := 0 < p && p < 256 && p != 128

/-- Every point number, ascending. -/
def pointNumbers : List Nat := (List.range 256).filter isPoint

/-- The loop a point is on (00_scope): the points of loop A are 1–127. -/
def loopOf (p : Nat) : LoopId := if p < 128 then .a else .b

/-- The door bound to a point (06, section 6.1). -/
def State.doorOf (s : State) (p : Nat) : Option Nat :=
  (List.range 32).find? fun d => (s.door d).cfg.point == some p

/-- The sign bound to a point (10, section 10.2). -/
def State.signOf (s : State) (p : Nat) : Option Nat :=
  (List.range 64).find? fun n => ((s.sign n).cfg.map (·.point)) == some p

/-- The interlock pair a door is a member of (07, section 7.1). -/
def State.pairOf (s : State) (d : Nat) : Option Nat :=
  (List.range 8).find? fun q =>
    match (s.pair q).cfg with
    | some c => c.doorX == d || c.doorY == d
    | none => false

/-! ## Reports and replies -/

/-- A report handed to the CLP joins the report queue, or is discarded with the lost-reports mark set when the queue
holds 96 (R167). -/
def State.report (s : State) (b : ReportBody) : State :=
  if s.link.reports.length < 96 then { s with link.reports := s.link.reports ++ [⟨s.now, b⟩] }
  else { s with link.lost := true }

/-- A block's reply to the request with this code and tag is ready to be sent (R165). -/
def State.answer (s : State) (code tag : Byte) (st : Status) (b : ReplyBody) : State :=
  { s with link.reply := some ⟨code, tag, st, b⟩ }

/-- The transmit path, when it is free, chooses the next frame: a reply waiting to be sent, otherwise the oldest report
with the lost-reports mark as it stands, otherwise nothing (R166, R167). Nothing more is sent once a start is due
(R171). -/
def State.pump (s : State) : State :=
  if s.link.sending.isSome || s.link.startDue then s
  else
    match s.link.reply, s.link.reports with
    | some r, _ => { s with link.sending := some (.reply r), link.reply := none }
    | none, r :: rest => { s with link.sending := some (.report r s.link.lost), link.reports := rest, link.lost := false }
    | none, [] => s

/-- The outcome of a command whose effects leave `s`: the step is whole, and then the transmit path chooses (log 6). -/
def done (s : State) : Host.Outcome State Fault Refusal := .next s.pump

/-- The CLP is serving a request: its reply is waiting, is held for a store write, or is being sent (R165, R16). -/
def Link.serving (l : Link) : Bool :=
  l.reply.isSome || l.heldReply.isSome ||
    (match l.sending with
     | some (.reply _) => true
     | _ => false)

/-- One more discarded frame; the count stops at 65535 (R164). -/
def State.discard (s : State) : State := { s with link.discards := min 65535 (s.link.discards + 1) }

/-- A good frame is passed to the request holder, or is discarded and counted when the holder keeps 4 (R165). -/
def State.hold (s : State) (h : Held) : State :=
  if s.link.holder.length < 4 then { s with link.holder := s.link.holder ++ [h] } else s.discard

/-- A request of the host: taken and served at once when the CLP serves none, otherwise it waits in the request holder
(R165). `serve` is what the owning block does with it. -/
def request (i : Instr) (serve : State → State) (s : State) : Host.Outcome State Fault Refusal :=
  if s.link.serving || s.link.startDue then done (s.hold (.request i)) else done (serve s)

/-! ## The alarm list (04) -/

/-- The class of a kind (R64). -/
def kindClass : AlarmKind → AlarmClass
  | .detectorAlarm | .manualAlarm | .evacInput => .fire
  | .intrusionDoor | .intrusionPresence | .callInSet | .exitInSet | .doorForced | .doorHeldOpen
  | .interlockBreach => .security
  | .pointMissing | .wrongKind | .detectorDirty | .lockFault | .lampFault | .batteryFault | .signFault
  | .callUnanswered | .mainsAbsent | .settingsFault => .fault

def Entry.isFire (e : Entry) : Bool := kindClass e.kind == .fire

/-- The entry's identity is this kind and object (R64). -/
def Entry.names (k : AlarmKind) (o : Obj) (e : Entry) : Bool := e.kind == k && e.obj == o

def Alarms.fireCount (a : Alarms) : Nat := a.entries.countP Entry.isFire

def Alarms.otherCount (a : Alarms) : Nat := a.entries.countP fun e => !e.isFire

/-- The pool of the class has room: fewer than 24 FIRE entries, fewer than 40 others (R65). -/
def Alarms.room (a : Alarms) (c : AlarmClass) : Bool :=
  if c = .fire then a.fireCount < 24 else a.otherCount < 40

/-- The position of the entry of an identity. -/
def Alarms.find (a : Alarms) (k : AlarmKind) (o : Obj) : Option Nat := a.entries.findIdx? (Entry.names k o)

/-- The overflow mark of a class becomes yes (R65). -/
def Alarms.mark (a : Alarms) : AlarmClass → Alarms
  | .fire => { a with markFire := true }
  | .security => { a with markSecurity := true }
  | .fault => { a with markFault := true }

/-- The entry after its condition has begun again at part time `t` (R66), left `active`. -/
def Entry.recur (e : Entry) (t : Nat) (active : Bool) : Entry :=
  { e with active := active, accepted := false, last := t, occurrences := min 255 (e.occurrences + 1) }

/-- A raise of an identity: a recurrence, a new entry, or not placed for want of room (R65, R66), reported as
ALARM_ENTRY (R71). `active` is no for a condition that ends within the same event (CALL_IN_SET, R67). -/
def State.raiseAs (s : State) (active : Bool) (k : AlarmKind) (o : Obj) : State :=
  match s.alarms.find k o with
  | some i =>
    let e := (s.alarms.entries.getD i default).recur s.now active
    State.report { s with alarms.entries := s.alarms.entries.set i e } (.alarmEntry .recurred k o (some i) (some e) false)
  | none =>
    if s.alarms.room (kindClass k) then
      let e : Entry := ⟨k, o, active, false, s.now, s.now, 1⟩
      State.report { s with alarms.entries := s.alarms.entries ++ [e] }
        (.alarmEntry .new k o (some s.alarms.entries.length) (some e) false)
    else
      State.report { s with alarms := s.alarms.mark (kindClass k) } (.alarmEntry .notPlaced k o none none false)

/-- The condition has begun (R65, R66). -/
def State.raise (s : State) (k : AlarmKind) (o : Obj) : State := s.raiseAs true k o

/-- The condition begins and ends within one event (R67, CALL_IN_SET). -/
def State.raiseAndEnd (s : State) (k : AlarmKind) (o : Obj) : State := s.raiseAs false k o

/-- The condition has ended (R67): an ACTIVE entry becomes CLEARED and leaves the list if it was accepted (R70),
reported as ALARM_ENTRY; otherwise, and for a FIRE identity (R68), nothing changes. -/
def State.endAlarm (s : State) (k : AlarmKind) (o : Obj) : State :=
  match s.alarms.find k o with
  | none => s
  | some i =>
    let e := s.alarms.entries.getD i default
    if !e.active || kindClass k == .fire then s
    else
      let e' := { e with active := false }
      if e.accepted then
        State.report { s with alarms.entries := s.alarms.entries.eraseIdx i }
          (.alarmEntry .cleared k o none (some e') true)
      else
        State.report { s with alarms.entries := s.alarms.entries.set i e' }
          (.alarmEntry .cleared k o (some i) (some e') false)

/-- The object of an entry is the point, or the door bound to it (04, after R64). -/
def State.concerns (s : State) (p : Nat) : Obj → Bool
  | .point q => q == p
  | .door d => (s.door d).cfg.point == some p
  | _ => false

/-- Ends each of a list of conditions. -/
def State.endAll (s : State) (ids : List (AlarmKind × Obj)) : State :=
  ids.foldl (fun t id => t.endAlarm id.1 id.2) s

/-- Every ACTIVE FAULT or SECURITY entry whose object is the point is marked CLEARED (R14), in the order of their positions
(log 42). -/
def State.clearObject (s : State) (p : Nat) : State :=
  s.endAll ((s.alarms.entries.filter fun e => e.active && !e.isFire && s.concerns p e.obj).map fun e => (e.kind, e.obj))

/-- Every ACTIVE FAULT entry for the point is marked CLEARED (R11), in the order of their positions (log 42). -/
def State.clearFaults (s : State) (p : Nat) : State :=
  s.endAll ((s.alarms.entries.filter fun e => e.active && kindClass e.kind == .fault && s.concerns p e.obj).map
    fun e => (e.kind, e.obj))

end Sys2Proof.Machine
end

