-- ==== Sys2Proof/Machine/Flags.lean ====
section
/-! DEFINITION. Conditions and line levels that the part computes from its records rather than holds: EVACUATE and the
output lines, zone modes, effective isolation, lock commands and jams, guarding, usability of exits, shown faces, lamp
modes. -/

namespace Sys2Proof.Machine

/-! ## Fire (03) -/

/-- Some zone is in fire state CONFIRMED. -/
def State.anyConfirmed (s : State) : Bool := s.fire.zones.rows.any fun z => z.fire == .confirmed

/-- EVACUATE: at least one zone is CONFIRMED or filtered EVAC_IN is active (R54). -/
def State.evacuate (s : State) : Bool := s.anyConfirmed || s.fire.evacIn.level

/-- SOUNDER_OUT: EVACUATE is active and the silenced flag is clear (R56). -/
def State.sounderOut (s : State) : Bool := s.evacuate && !s.fire.silenced

/-- ALERT_OUT: at least one zone is in FIRST or INVESTIGATE (R55). -/
def State.alertOut (s : State) : Bool := s.fire.zones.rows.any fun z => z.fire == .first || z.fire == .investigate

/-- EVAC_OUT: at least one zone is CONFIRMED (R55). -/
def State.evacOut (s : State) : Bool := s.anyConfirmed

/-- The number of zones in a fire state. -/
def State.zonesIn (s : State) (f : FireState) : Nat := s.fire.zones.rows.countP fun z => z.fire == f

/-! ## The lines of the alarm list (R72) -/

/-- FAULT_OUT: at least one FAULT entry is ACTIVE. -/
def State.faultOut (s : State) : Bool := s.alarms.entries.any fun e => kindClass e.kind == .fault && e.active

/-- GUARD_OUT: at least one INTRUSION_DOOR or INTRUSION_PRESENCE entry is not accepted, ACTIVE or CLEARED. -/
def State.guardOut (s : State) : Bool :=
  s.alarms.entries.any fun e => (e.kind == .intrusionDoor || e.kind == .intrusionPresence) && !e.accepted

/-! ## Modes and isolation -/

/-- A zone's mode is the mode of its schedule group (05, section 5.1). -/
def State.zoneMode (s : State) (z : Nat) : Mode := (s.group (s.zone z).cfg.group).mode

/-- The zones of a group, ascending. -/
def State.zonesOf (s : State) (g : Nat) : List Nat := (List.range 48).filter fun z => (s.zone z).cfg.group == g

/-- The zones of a group whose fire state is not NORMAL, ascending (R85). -/
def State.zonesNotNormal (s : State) (g : Nat) : List Nat := (s.zonesOf g).filter fun z => (s.zone z).fire != .normal

def Isolation.isNone : Isolation → Bool
  | .none => true
  | _ => false

/-- The kinds that zone isolation withdraws (R14). -/
def isFireKind : Kind → Bool
  | .smoke | .heat | .manual => true
  | _ => false

/-- The kinds that have a detector record (R20). -/
def isDetectorKind : Kind → Bool
  | .smoke | .heat => true
  | _ => false

/-- The point is under effective isolation (R14): isolated itself, or a SMOKE, HEAT or MANUAL point of an isolated
zone. A record that is not configured is not. -/
def State.effective (s : State) (p : Nat) : Bool :=
  (s.point p).cfg.configured &&
    (!(s.point p).isolation.isNone ||
      (isFireKind (s.point p).cfg.kind && !(s.zone (s.point p).cfg.zone).isolation.isNone))

/-- A configured point of this kind. -/
def State.isKind (s : State) (p : Nat) (k : Kind) : Bool := (s.point p).cfg.configured && (s.point p).cfg.kind == k

/-- The number of configured points of a kind (R10). -/
def State.countKind (s : State) (k : Kind) : Nat := pointNumbers.countP fun p => s.isKind p k

/-- The profile index a zone names in its present mode (R30): night in SET, day otherwise. -/
def State.zoneProfile (s : State) (z : Nat) : Nat :=
  if s.zoneMode z = .set then (s.zone z).cfg.night else (s.zone z).cfg.day

/-! ## Doors (06) -/

/-- The release-cause set is empty. -/
def Causes.isEmpty (c : Causes) : Bool := !c.evac && !c.schedule && !c.hostHold && c.timed.isNone && !c.exitLevel

/-- The lock a cause set commands (R94). -/
def Causes.lock (c : Causes) : Lock := if c.isEmpty then .locked else .free

/-- A door with these causes is held (R104): HOST_HOLD, SCHEDULE or EVAC. -/
def Causes.held (c : Causes) : Bool := c.hostHold || c.schedule || c.evac

/-- The set holds an exit release (R98): TIMED with origin EXIT, or EXIT_LEVEL. -/
def Causes.exitRelease (c : Causes) : Bool := c.timed == some .exit || c.exitLevel

/-- Some cause of `c` is not in `d`. -/
def Causes.leaves (c d : Causes) : Bool :=
  (c.evac && !d.evac) || (c.schedule && !d.schedule) || (c.hostHold && !d.hostHold) ||
    (c.timed.isSome && d.timed.isNone) || (c.exitLevel && !d.exitLevel)

/-- The door is jammed (R105): LOCK_FAULT set, commanded FREE, feedback LOCKED. -/
def Door.jammed (d : Door) : Bool := d.lockFault && d.causes.lock == .free && d.feedback == some .locked

def Door.configured (d : Door) : Bool := d.cfg.point.isSome

/-- The release latch holds a cause (R108). -/
def State.latched (s : State) : Bool := s.doors.latchEvac || s.doors.latchStartUp

/-- The zone a door belongs to: the zone of its point (06, section 6.1). -/
def State.doorZone (s : State) (d : Nat) : Nat :=
  match (s.door d).cfg.point with
  | some p => (s.point p).cfg.zone
  | none => 0

/-- The group a door belongs to. -/
def State.doorGroup (s : State) (d : Nat) : Nat := (s.zone (s.doorZone d)).cfg.group

/-- The door's point is under effective isolation. -/
def State.doorIsolated (s : State) (d : Nat) : Bool :=
  match (s.door d).cfg.point with
  | some p => s.effective p
  | none => false

/-- The configured doors, ascending. -/
def State.configuredDoors (s : State) : List Nat := (List.range 32).filter fun d => (s.door d).configured

/-- The configured doors of a group, ascending (R84). -/
def State.doorsOf (s : State) (g : Nat) : List Nat := s.configuredDoors.filter fun d => s.doorGroup d == g

/-- The doors of a group that fail its setting procedure: contact OPEN and point not under effective isolation (R84). -/
def State.openDoorsOf (s : State) (g : Nat) : List Nat :=
  (s.doorsOf g).filter fun d => (s.door d).contact == some .opened && !s.doorIsolated d

/-- The holder command (R107). -/
def State.holderOf (s : State) (d : Nat) : Holder :=
  if !(s.door d).cfg.holder || s.evacuate || (s.zone (s.doorZone d)).fire != .normal
      || (s.group (s.doorGroup d)).mode == .set || (s.group (s.doorGroup d)).setting.isSome then .drop
  else .hold

/-- A door of a pair is quiet (R114): empty cause set and contact CLOSED. -/
def Door.isQuiet (d : Door) : Bool := d.causes.isEmpty && d.contact == some .closed

/-! ## Guarding (R121) -/

/-- The zone is guarded. -/
def State.guarded (s : State) (z : Nat) : Bool :=
  s.zoneMode z == .set && !s.evacuate && s.guard.quiet.isNone && (s.zone z).fire == .normal

/-- The zone is listed by at least one grant. -/
def State.covered (s : State) (z : Nat) : Bool :=
  s.guard.grants.rows.any fun g =>
    match g with
    | some g => g.zones.contains z
    | none => false

/-! ## Calls (09) -/

/-- The channel a call holds. -/
def CallState.channel : CallState → Option Channel
  | .offered ch _ => some ch
  | .connected ch _ _ => some ch
  | _ => none

/-- The record that holds a channel. -/
def Calls.holderOf (c : Calls) (ch : Channel) : Option Call := c.queue.find? fun r => r.state.channel == some ch

/-- The first free channel (R135). -/
def Calls.freeChannel (c : Calls) : Option Channel :=
  if (c.holderOf .one).isNone then some .one else if (c.holderOf .two).isNone then some .two else none

/-- The record of a point. -/
def Calls.ofPoint (c : Calls) (p : Nat) : Option Call := c.queue.find? fun r => r.point == p

/-- The indicator and channel of a CALL point, from its call state (R131). -/
def State.callWord (s : State) (p : Nat) : OutWord :=
  match s.calls.ofPoint p with
  | some r =>
    match r.state with
    | .waiting => .call .queued none
    | .offered ch _ => .call .offered (some ch)
    | .connected ch _ _ => .call .connected (some ch)
    | .held => .call .held none
  | none => if (s.point p).deferred.isSome then .call .wait none else .call .idle none

/-! ## Routes (10) -/

/-- The usability of an exit (R146). -/
def State.exitUsable (s : State) (e : Exit) : Bool :=
  match e.cfg with
  | none => false
  | some c =>
    !e.blocked &&
      (match c.zone with
       | none => true
       | some z => (s.zone z).fire != .confirmed) &&
      (match c.door with
       | none => true
       | some d => !(s.door d).jammed)

/-- The path of a route entry holds a CONFIRMED zone. -/
def State.pathConfirmed (s : State) (r : RouteEntry) : Bool := r.path.any fun z => (s.zone z).fire == .confirmed

/-- A route entry qualifies (R150): its exit is usable and no zone of its path is CONFIRMED. -/
def State.entryOpen (s : State) (r : RouteEntry) : Bool := (s.exit r.exit).usable && !s.pathConfirmed r

/-- The chosen entry of a sign (R150): the first that qualifies. -/
def State.chooseEntry (s : State) (c : SignCfg) : Option Nat := c.entries.findIdx? s.entryOpen

/-- The chosen face: the face of the chosen entry, or NO_EXIT (R150). -/
def SignCfg.chosenFace (c : SignCfg) (chosen : Option Nat) : Face :=
  match chosen with
  | none => .noExit
  | some i =>
    match c.entries[i]? with
    | some e => e.face
    | none => .noExit

/-- Step `i` of sequence `q` (R152). -/
def State.stepAt (s : State) (q i : Nat) : Step := s.routes.steps.get ((s.routes.sequences.get q).first + i)

/-- The face a sign of configuration `c` is commanded to show (R151). -/
def State.shownFace (s : State) (n : Sign) (c : SignCfg) : Face :=
  if !s.evacuate then c.face
  else
    match c.chosenFace n.chosen, c.sequence, n.step with
    | .noExit, _, _ => .noExit
    | f, some q, some st => if (s.stepAt q st.index).kind = .dark then .dark else f
    | f, _, _ => f

/-! ## Luminaires (11) -/

/-- The mode a LAMP point is commanded to (R157). -/
def State.lampMode (s : State) (p : Nat) : LampMode :=
  if s.evacuate || !s.fire.mainsOk.level then .emergency
  else
    match s.lamp p with
    | none => .off
    | some l =>
      if (s.lampGroup l.cfg.group).state == .running && l.included && l.outcome != .fail then .test
      else if l.cfg.maintained && s.zoneMode (s.point p).cfg.zone != .set then .on
      else .off

/-- The number of lamps failed (R159): the lamps now in the group whose outcome is FAIL. A failed lamp that CFG_LAMP removes
or moves during RECHARGE leaves the count of its group, and one that moves keeps its outcome and is counted in the new
group (R156 keeps the working state; log 54). -/
def State.failedLamps (s : State) (g : Nat) : Nat :=
  s.lamps.lamps.rows.countP fun l =>
    match l with
    | some l => l.cfg.group == g && l.outcome == .fail
    | none => false

/-- A lamp group is under test: RUNNING or SUSPENDED. -/
def LampGroup.underTest (g : LampGroup) : Bool := g.state == .running || g.state == .suspended

end Sys2Proof.Machine
end

