-- ==== Sys2Proof/Machine/Operands.lean ====
section
/-! DEFINITION. The forms operands take: message codes, status codes, the reading of raw settings, and the views of
records that replies and reports carry. -/

namespace Sys2Proof.Machine

/-! ## Codes (12, section 12.5) -/

/-- The kind code of a request; none for an event of the part. -/
def requestCode : Instr → Option Byte
  | .getSummary _ => some 0x01
  | .getPoint _ _ => some 0x02
  | .getZone _ _ => some 0x03
  | .getGroup _ _ => some 0x04
  | .getDoor _ _ => some 0x05
  | .getPair _ _ => some 0x06
  | .getCalls _ => some 0x07
  | .getSign _ _ => some 0x08
  | .getExit _ _ => some 0x09
  | .getLampGroup _ _ => some 0x0A
  | .getAlarms _ _ => some 0x0B
  | .cfgPoint _ _ _ => some 0x10
  | .cfgZone _ _ _ => some 0x11
  | .cfgProfile _ _ _ => some 0x12
  | .cfgGroup _ _ _ _ => some 0x13
  | .cfgDoor _ _ _ => some 0x14
  | .cfgPair _ _ _ => some 0x15
  | .cfgExit _ _ _ => some 0x16
  | .cfgSign _ _ _ => some 0x17
  | .cfgSequence _ _ _ _ _ => some 0x18
  | .cfgLamp _ _ _ => some 0x19
  | .cfgLampGroup _ _ _ => some 0x1A
  | .saveSettings _ => some 0x1B
  | .isolate _ _ _ => some 0x20
  | .restoreIsolation _ _ => some 0x21
  | .acceptFire _ _ => some 0x22
  | .confirmFire _ _ => some 0x23
  | .silence _ => some 0x24
  | .resound _ => some 0x25
  | .fireReset _ => some 0x26
  | .stageSegment _ _ _ _ _ => some 0x27
  | .setMode _ _ _ => some 0x28
  | .releaseDoor _ _ _ => some 0x29
  | .holdDoor _ _ => some 0x2A
  | .lockDoor _ _ => some 0x2B
  | .doorRestore _ => some 0x2C
  | .grantPassage _ _ _ => some 0x2D
  | .endPassage _ _ => some 0x2E
  | .answerCall _ _ => some 0x2F
  | .holdCall _ _ => some 0x30
  | .endCall _ _ => some 0x31
  | .blockExit _ _ => some 0x32
  | .unblockExit _ _ => some 0x33
  | .startTest _ _ => some 0x34
  | .suspendTest _ _ => some 0x35
  | .resumeTest _ _ => some 0x36
  | .stopTest _ _ => some 0x37
  | .acceptAlarm _ _ => some 0x38
  | .restart _ => some 0x39
  | .start | .receiveByte _ | .frameGapTimeout | .unknownKind _ _ | .transmitFrameEnd | .standingAreaWriteDone
  | .saveDone _ | .scanStart _ | .pointReply _ _ | .replyWindowExpiry _ | .startUpHoldEnd | .driftChance _
  | .heatWindowCapture _ | .acceptTimerExpiry _ | .investigationTimerExpiry _ | .pointIsolationExpiry _
  | .zoneIsolationExpiry _ | .lineInputSample _ _ | .evacInChange _ | .mainsOkChange _ | .segmentExpiry _
  | .exitTimeExpiry _ | .retryTimerExpiry _ | .releaseTimerExpiry _ | .graceTimerExpiry _ | .closeIgnoreWindowEnd _
  | .allowanceTimerExpiry _ | .quietTimerExpiry _ | .pendingWaitExpiry _ | .gmQuietTimerExpiry | .grantExpiry _
  | .offerTimerExpiry _ | .limitTimerExpiry _ | .sequenceStep _ | .suspensionLimit _ | .testCompleted _
  | .rechargeExpiry _ => none

/-- The tag of a request; 0 for an event of the part. -/
def requestTag : Instr → Byte
  | .getSummary t | .getPoint t _ | .getZone t _ | .getGroup t _ | .getDoor t _ | .getPair t _ | .getCalls t
  | .getSign t _ | .getExit t _ | .getLampGroup t _ | .getAlarms t _ | .cfgPoint t _ _ | .cfgZone t _ _
  | .cfgProfile t _ _ | .cfgGroup t _ _ _ | .cfgDoor t _ _ | .cfgPair t _ _ | .cfgExit t _ _ | .cfgSign t _ _
  | .cfgSequence t _ _ _ _ | .cfgLamp t _ _ | .cfgLampGroup t _ _ | .saveSettings t | .isolate t _ _
  | .restoreIsolation t _ | .acceptFire t _ | .confirmFire t _ | .silence t | .resound t | .fireReset t
  | .stageSegment t _ _ _ _ | .setMode t _ _ | .releaseDoor t _ _ | .holdDoor t _ | .lockDoor t _ | .doorRestore t
  | .grantPassage t _ _ | .endPassage t _ | .answerCall t _ | .holdCall t _ | .endCall t _ | .blockExit t _
  | .unblockExit t _ | .startTest t _ | .suspendTest t _ | .resumeTest t _ | .stopTest t _ | .acceptAlarm t _
  | .restart t => t
  | .start | .receiveByte _ | .frameGapTimeout | .unknownKind _ _ | .transmitFrameEnd | .standingAreaWriteDone
  | .saveDone _ | .scanStart _ | .pointReply _ _ | .replyWindowExpiry _ | .startUpHoldEnd | .driftChance _
  | .heatWindowCapture _ | .acceptTimerExpiry _ | .investigationTimerExpiry _ | .pointIsolationExpiry _
  | .zoneIsolationExpiry _ | .lineInputSample _ _ | .evacInChange _ | .mainsOkChange _ | .segmentExpiry _
  | .exitTimeExpiry _ | .retryTimerExpiry _ | .releaseTimerExpiry _ | .graceTimerExpiry _ | .closeIgnoreWindowEnd _
  | .allowanceTimerExpiry _ | .quietTimerExpiry _ | .pendingWaitExpiry _ | .gmQuietTimerExpiry | .grantExpiry _
  | .offerTimerExpiry _ | .limitTimerExpiry _ | .sequenceStep _ | .suspensionLimit _ | .testCompleted _
  | .rechargeExpiry _ => 0

/-- The code is one of the request kinds of 12.5. -/
def isRequestCode (k : Byte) : Bool :=
  (0x01 ≤ k.toNat && k.toNat ≤ 0x0B) || (0x10 ≤ k.toNat && k.toNat ≤ 0x1B) || (0x20 ≤ k.toNat && k.toNat ≤ 0x39)

/-- The request of a kind that takes no fields (12.5, and R169, R171, R172 for SAVE_SETTINGS, RESTART, GET_SUMMARY). -/
def fieldlessRequest (kind tag : Byte) : Option Instr :=
  match kind.toNat with
  | 0x01 => some (.getSummary tag)
  | 0x07 => some (.getCalls tag)
  | 0x1B => some (.saveSettings tag)
  | 0x24 => some (.silence tag)
  | 0x25 => some (.resound tag)
  | 0x26 => some (.fireReset tag)
  | 0x2C => some (.doorRestore tag)
  | 0x39 => some (.restart tag)
  | _ => none

/-- The value of a status code (12.5). -/
def Status.code : Status → Byte
  | .ok => 0x00
  | .okClamped => 0x01
  | .pending => 0x02
  | .busy => 0x03
  | .unknownKind => 0x04
  | .noObject => 0x05
  | .badValue => 0x06
  | .wrongState => 0x07
  | .evacuating => 0x08
  | .interlocked => 0x09
  | .recharging => 0x0A
  | .mainsAbsent => 0x0B
  | .sounding => 0x0C
  | .full => 0x0D

/-- The reply to request `i` with this status and body is ready. -/
def State.reply (s : State) (i : Instr) (st : Status) (b : ReplyBody) : State :=
  s.answer ((requestCode i).getD 0) (requestTag i) st b

/-- The request is refused: the reply carries the status alone (R165). -/
def State.refuse (s : State) (i : Instr) (st : Status) : State := s.reply i st .none

/-- The request is replied OK, with nothing else. -/
def State.accept (s : State) (i : Instr) : State := s.reply i .ok .none

/-- OK, or OK_CLAMPED when a value was clamped. -/
def clampStatus (clamped : Bool) : Status := if clamped then .okClamped else .ok

/-- The reply of a taken configuration request that clamps: OK, or OK_CLAMPED with the values as written (12.10). -/
def State.acceptClamped (s : State) (i : Instr) (clamped : Bool) (values : List Nat) : State :=
  if clamped then s.reply i .okClamped (.clamped values) else s.accept i

/-! ## Raw settings -/

/-- The profile values brought into range, in the order of R28. -/
def profileInRange (v : ProfileValues) : ProfileValues :=
  let p := clamp 33 255 v.p
  let a := clamp 34 255 v.a
  let p' := if p = 255 then 254 else p
  let a' := if p = 255 then 255 else a
  ⟨p', if a' ≤ p' then p' + 1 else a', clamp 1 20 v.k, clamp 40 255 v.h, clamp 0 40 v.r⟩

/-- The value is outside `lo` to `hi`, and is clamped. -/
def outside (lo hi n : Nat) : Bool := n < lo || hi < n

/-- A face a route entry may name (R149). -/
def isRouteFace : Face → Bool
  | .left | .right | .ahead | .up | .down => true
  | _ => false

/-- No number stands twice in the list. -/
def distinct : List Nat → Bool
  | [] => true
  | x :: xs => !xs.contains x && distinct xs

/-- A route entry of CFG_SIGN that R149 allows, its exit configured; none otherwise. -/
def State.readRoute (s : State) (r : RouteSetting) : Option RouteEntry :=
  match r.face with
  | none => none
  | some f =>
    if r.exit < 12 && (s.exit r.exit).cfg.isSome && isRouteFace f && !r.path.isEmpty && r.path.length ≤ 6
        && r.path.all (fun z => z < 48) && distinct r.path then some ⟨r.exit, f, r.path⟩
    else none

/-- Every route entry read, or none when one of them is not allowed. -/
def State.readRoutes (s : State) : List RouteSetting → Option (List RouteEntry)
  | [] => some []
  | r :: rs =>
    match s.readRoute r, s.readRoutes rs with
    | some e, some es => some (e :: es)
    | _, _ => none

/-- The steps of CFG_SEQUENCE with durations clamped to 1–20, or none when a kind is not ROUTE or DARK (R152). -/
def readSteps : List StepSetting → Option (List Step)
  | [] => some []
  | r :: rs =>
    match r.kind, readSteps rs with
    | some k, some ss => some (⟨k, clamp 1 20 r.duration⟩ :: ss)
    | _, _ => none

/-- A point is of the sort R64 names as the object of a kind of entry, as the point is now configured. -/
def State.pointFits (s : State) (k : AlarmKind) (p : Nat) : Bool :=
  match k with
  | .detectorAlarm => s.isKind p .smoke || s.isKind p .heat
  | .manualAlarm => s.isKind p .manual
  | .intrusionPresence => s.isKind p .presence
  | .callInSet | .callUnanswered => s.isKind p .call
  | .detectorDirty => s.isKind p .smoke
  | .lampFault | .batteryFault => s.isKind p .lamp
  | .signFault => s.isKind p .sign
  | .pointMissing | .wrongKind => true
  | .evacInput | .intrusionDoor | .exitInSet | .doorForced | .doorHeldOpen | .interlockBreach | .lockFault
  | .mainsAbsent | .settingsFault => false

/-- An object is of the sort a kind of entry names (R64). A door, a pair and, for POINT_MISSING and WRONG_KIND, a point is
of its sort by what it is alone, whatever its number and whether it is configured (log 36). -/
def State.sortFits (s : State) (k : AlarmKind) (o : Obj) : Bool :=
  match o with
  | .none => k == .evacInput || k == .mainsAbsent || k == .settingsFault
  | .door _ => k == .intrusionDoor || k == .exitInSet || k == .doorForced || k == .doorHeldOpen || k == .lockFault
  | .pair _ => k == .interlockBreach
  | .point p => s.pointFits k p

/-! ## Views -/

def Isolation.view : Isolation → IsolationView
  | .none => .none
  | .temporary m => .temporary m.left
  | .standing => .standing

/-- A detector as GET_POINT returns it (R39). -/
def Detector.view (d : Detector) : DetectorView :=
  ⟨d.state, d.k, d.profile, d.history, d.ref, d.dirty, d.drift, d.w, d.window, d.lastF, d.lastC⟩

/-- The seconds remaining of a timer, or absent. -/
def leftOf (c : Option Countdown) : Option Nat := c.map (·.left)

/-- The isolation a taken ISOLATE gives, with its full minutes (R13). -/
def givenIsolation : IsolationAsk → Isolation
  | .temporary m => .temporary (.start (clamp 1 720 m))
  | .standing => .standing

/-- The minutes of the request are clamped (R13). -/
def minutesClamped : IsolationAsk → Bool
  | .temporary m => outside 1 720 m
  | .standing => false

end Sys2Proof.Machine
end

