-- ==== Sys2Proof/Machine/Luminaires.lean ====
section
/-! DEFINITION. The luminaire controller (11): lamp modes, lamp replies, the duration tests, and its commands. -/

namespace Sys2Proof.Machine

/-- Every CFG_ request and SAVE_SETTINGS is refused EVACUATING while EVACUATE is active, and BUSY while a save is in
progress (R168). -/
def State.cfgRefusal (s : State) : Option Status :=
  if s.evacuate then some .evacuating else if s.store.saving.isSome then some .busy else none

/-! ## Modes (R157) -/

/-- The LC writes each LAMP point's mode in its output word (R157). -/
def State.refreshLamps (s : State) : State :=
  { s with
    loops.points := s.loops.points.map fun p r =>
      if r.cfg.configured && r.cfg.kind == .lamp then { r with word := .lamp (s.lampMode p) } else r }

/-! ## Duration tests (R159 to R162) -/

/-- LAMP_TEST for a group as it now stands (R159). Every one carries the group's last result, which 11.3 shows for COMPLETED
(log 47). -/
def State.reportTest (s : State) (g : Nat) (cause : TestCause) (p : Option Nat) : State :=
  s.report (.lampTest g (s.lampGroup g).state cause (s.lampGroup g).remaining.left (s.failedLamps g) p
    (s.lampGroup g).last)

/-- The lamp is included in a RUNNING test and has not failed (R160). -/
def State.lampInTest (s : State) (p : Nat) : Bool :=
  match s.lamp p with
  | some l => (s.lampGroup l.cfg.group).state == .running && l.included && l.outcome != .fail
  | none => false

/-- The lamp fails its test (R160): outcome FAIL, its mode by R157, LAMP_TEST LAMP_FAILED. -/
def State.failLamp (s : State) (p : Nat) : State :=
  match s.lamp p with
  | some l => ((s.putLamp p (some { l with outcome := .fail })).refreshLamps).reportTest l.cfg.group .lampFailed (some p)
  | none => s

/-- The health of a lamp point becomes MISSING or WRONG_KIND (R160). -/
def State.lampLost (s : State) (p : Nat) : State := if s.lampInTest p then s.failLamp p else s

/-- Applies `f` to every lamp record of a group. -/
def State.eachLampOf (s : State) (g : Nat) (f : Nat → Lamp → Lamp) : State :=
  { s with
    lamps.lamps := s.lamps.lamps.map fun p l =>
      match l with
      | some l => if l.cfg.group = g then some (f p l) else some l
      | none => none }

/-- The lamp records of a group, ascending by point. -/
def State.lampsOf (s : State) (g : Nat) : List Nat :=
  pointNumbers.filter fun p =>
    match s.lamp p with
    | some l => l.cfg.group == g
    | none => false

/-- The test of a group under test is abandoned (R161). Its remaining seconds and its suspended seconds stay as
they stood (log 48). -/
def State.abandonTest (s : State) (g : Nat) : State :=
  let s := s.putLampGroup g { s.lampGroup g with state := .recharge, recharge := some (.start 86400), last := .aborted }
  let s := s.eachLampOf g fun _ l => { l with included := false }
  s.refreshLamps.reportTest g .aborted none

/-- Every test in progress is abandoned (R161). -/
def State.abandonTests (s : State) : State :=
  s.each (List.range 4) fun g t => if (t.lampGroup g).underTest then t.abandonTest g else t

/-- EVACUATE has changed (R157, R161). -/
def State.lampsSeeEvacuate (s : State) : State :=
  if s.evacuate then s.abandonTests.refreshLamps else s.refreshLamps

/-- Filtered MAINS_OK has changed (R158, R161). MAINS_ABSENT is raised before LAMP_TEST ABORTED (log 46). -/
def State.lampsSeeMains (s : State) : State :=
  if s.fire.mainsOk.level then (s.endAlarm .mainsAbsent .none).refreshLamps
  else (s.raise .mainsAbsent .none).abandonTests.refreshLamps

/-- A lamp passes a completed test (R162), which ends a battery fault of TEST (R160). -/
def State.passLamp (s : State) (p : Nat) : State :=
  match s.lamp p with
  | some l =>
    if l.included && l.outcome != .fail then
      if l.battery = .test then
        (s.putLamp p (some { l with outcome := .pass, battery := .none })).endAlarm .batteryFault (.point p)
      else s.putLamp p (some { l with outcome := .pass })
    else s
  | none => s

/-- The test of a RUNNING group completes (R162). The battery faults of TEST that it ends go first, in ascending point number,
and LAMP_TEST COMPLETED after them (log 46). The suspended seconds stay as they stood (log 48). -/
def State.completeTest (s : State) (g : Nat) : State :=
  let s := s.each (s.lampsOf g) fun p t => t.passLamp p
  let s := s.putLampGroup g
    { s.lampGroup g with
      state := .recharge, remaining := ⟨0, 0⟩, recharge := some (.start 86400),
      last := if s.failedLamps g = 0 then .pass else .fail }
  let s := s.eachLampOf g fun _ l => { l with included := false }
  s.refreshLamps.reportTest g .completed none

/-! ## Lamp points (R158) -/

/-- The lamp-good part of a reply (R158, step 1). -/
def State.judgeLampGood (s : State) (p : Nat) (lampGood : Bool) : State :=
  match s.lamp p with
  | some l =>
    if !lampGood && !l.lampFault then (s.putLamp p (some { l with lampFault := true })).raise .lampFault (.point p)
    else if lampGood && l.lampFault then
      (s.putLamp p (some { l with lampFault := false })).endAlarm .lampFault (.point p)
    else s
  | none => s

/-- The battery part of a reply (R158, step 2). -/
def State.judgeBattery (s : State) (p : Nat) (b : Battery) : State :=
  match s.lamp p with
  | some l =>
    if b = .failed ∧ l.battery = .none then
      (s.putLamp p (some { l with battery := .failed })).raise .batteryFault (.point p)
    else if b ≠ .failed ∧ l.battery = .failed then
      (s.putLamp p (some { l with battery := .none })).endAlarm .batteryFault (.point p)
    else s
  | none => s

/-- A reply judged for the running test (R158, step 3; R160). -/
def State.judgeTest (s : State) (p : Nat) (lampGood : Bool) (b : Battery) : State :=
  if s.lampInTest p && (b != .good || !lampGood) then
    let s := s.failLamp p
    match s.lamp p with
    | some l =>
      if b = .good then s else (s.putLamp p (some { l with battery := .test })).raise .batteryFault (.point p)
    | none => s
  else s

/-- A good reply from a LAMP point (R158). -/
def State.lampReply (s : State) (p : Nat) (lampGood : Bool) (b : Battery) : State :=
  if s.effective p then s else ((s.judgeLampGood p lampGood).judgeBattery p b).judgeTest p lampGood b

/-- A LAMP point comes under effective isolation (R158, R160). -/
def State.isolateLamp (s : State) (p : Nat) : State :=
  match s.lamp p with
  | some l => (s.putLamp p (some { l with lampFault := false, battery := .none, included := false })).refreshLamps
  | none => s

/-! ## Commands -/

/-- A served CFG_LAMP (R156). A removal ends LAMP_FAULT before BATTERY_FAULT (log 46). -/
def serveCfgLamp (tag : Byte) (p : Nat) (setting : Option LampSetting) (s : State) : State :=
  let i := Instr.cfgLamp tag p setting
  match s.cfgRefusal with
  | some st => s.refuse i st
  | none =>
    if !isPoint p then s.refuse i .noObject
    else if !s.isKind p .lamp then s.refuse i .badValue
    else
      match setting, s.lamp p with
      | some c, some l =>
        if 3 < c.group then s.refuse i .badValue
        else if c.group != l.cfg.group &&
            ((s.lampGroup c.group).underTest || (s.lampGroup l.cfg.group).underTest) then s.refuse i .wrongState
        else ((s.putLamp p (some { l with cfg := c })).refreshLamps).accept i
      | some c, none =>
        if 3 < c.group then s.refuse i .badValue else ((s.putLamp p (some (.fresh c))).refreshLamps).accept i
      | none, some l =>
        if (s.lampGroup l.cfg.group).underTest then s.refuse i .wrongState
        else
          ((((s.putLamp p none).endAlarm .lampFault (.point p)).endAlarm .batteryFault (.point p)).refreshLamps).accept i
      | none, none => s.accept i

/-- CFG_LAMP (R156). -/
def execCfgLamp (tag : Byte) (p : Nat) (setting : Option LampSetting) (s : State) : Host.Outcome State Fault Refusal :=
  request (.cfgLamp tag p setting) (serveCfgLamp tag p setting) s

def serveCfgLampGroup (tag : Byte) (g length : Nat) (s : State) : State :=
  let i := Instr.cfgLampGroup tag g length
  match s.cfgRefusal with
  | some st => s.refuse i st
  | none =>
    if 3 < g then s.refuse i .noObject
    else if length ≠ 3600 ∧ length ≠ 10800 then s.refuse i .badValue
    else (s.putLampGroup g { s.lampGroup g with length := length }).accept i

/-- CFG_LAMP_GROUP (R159). -/
def execCfgLampGroup (tag : Byte) (g length : Nat) (s : State) : Host.Outcome State Fault Refusal :=
  request (.cfgLampGroup tag g length) (serveCfgLampGroup tag g length) s

/-- The refusals START_TEST and RESUME_TEST share, `needed` being the state the request requires (R159). -/
def State.testRefusal (s : State) (g : Nat) (needed : TestState) : Option Status :=
  if 3 < g then some .noObject
  else if (s.lampGroup g).state = .recharge then some .recharging
  else if s.evacuate then some .evacuating
  else if !s.fire.mainsOk.level then some .mainsAbsent
  else if (List.range 4).any fun h => h != g && (s.lampGroup h).underTest then some .busy
  else if (s.lampGroup g).state ≠ needed then some .wrongState
  else none

/-- A served START_TEST (R159): LAMP_TEST STARTED goes first, with no lamp failed yet, and each lamp that records FAIL at
once then reports LAMP_FAILED, in ascending point number (R159 gives no order; logs 37, 46). -/
def serveStartTest (tag : Byte) (g : Nat) (s : State) : State :=
  let i := Instr.startTest tag g
  match s.testRefusal g .idle with
  | some st => s.refuse i st
  | none =>
    let s := s.putLampGroup g
      { s.lampGroup g with
        state := .running, remaining := .start (s.lampGroup g).length, suspended := 0, suspendedTicks := 0 }
    let s := s.eachLampOf g fun p l => { l with outcome := .none, included := !s.effective p }
    let s := s.refreshLamps.reportTest g .started none
    let s := s.each (s.lampsOf g) fun p t =>
      if t.lampInTest p && (t.point p).health != .normal then t.failLamp p else t
    s.accept i

/-- START_TEST (R159). -/
def execStartTest (tag : Byte) (g : Nat) (s : State) : Host.Outcome State Fault Refusal :=
  request (.startTest tag g) (serveStartTest tag g) s

def serveResumeTest (tag : Byte) (g : Nat) (s : State) : State :=
  let i := Instr.resumeTest tag g
  match s.testRefusal g .suspended with
  | some st => s.refuse i st
  | none =>
    let s := s.putLampGroup g { s.lampGroup g with state := .running }
    (s.refreshLamps.reportTest g .resumed none).accept i

/-- RESUME_TEST (R159). -/
def execResumeTest (tag : Byte) (g : Nat) (s : State) : Host.Outcome State Fault Refusal :=
  request (.resumeTest tag g) (serveResumeTest tag g) s

/-- A served SUSPEND_TEST (R161). A group outside 0–3 is refused NO_OBJECT, for which R161 has no line (log 40). -/
def serveSuspendTest (tag : Byte) (g : Nat) (s : State) : State :=
  let i := Instr.suspendTest tag g
  if 3 < g then s.refuse i .noObject
  else if (s.lampGroup g).state ≠ .running then s.refuse i .wrongState
  else
    let s := s.putLampGroup g { s.lampGroup g with state := .suspended }
    (s.refreshLamps.reportTest g .suspended none).accept i

/-- SUSPEND_TEST (R161). -/
def execSuspendTest (tag : Byte) (g : Nat) (s : State) : Host.Outcome State Fault Refusal :=
  request (.suspendTest tag g) (serveSuspendTest tag g) s

/-- A served STOP_TEST (R161). A group outside 0–3 is refused NO_OBJECT, for which R161 has no line (log 40). -/
def serveStopTest (tag : Byte) (g : Nat) (s : State) : State :=
  let i := Instr.stopTest tag g
  if 3 < g then s.refuse i .noObject
  else if !(s.lampGroup g).underTest then s.refuse i .wrongState
  else (s.abandonTest g).accept i

/-- STOP_TEST (R161). -/
def execStopTest (tag : Byte) (g : Nat) (s : State) : Host.Outcome State Fault Refusal :=
  request (.stopTest tag g) (serveStopTest tag g) s

/-- SUSPENSION_LIMIT (R161): the suspended seconds of a SUSPENDED group reach 3600. -/
def execSuspensionLimit (g : Nat) (s : State) : Host.Outcome State Fault Refusal :=
  done (if (s.lampGroup g).state = .suspended then s.abandonTest g else s)

/-- TEST_COMPLETED (R162): the remaining seconds of a RUNNING group would fall from 1. -/
def execTestCompleted (g : Nat) (s : State) : Host.Outcome State Fault Refusal :=
  done (if (s.lampGroup g).state = .running then s.completeTest g else s)

/-- RECHARGE_EXPIRY (R162): the group becomes IDLE. -/
def execRechargeExpiry (g : Nat) (s : State) : Host.Outcome State Fault Refusal :=
  done
    (if (s.lampGroup g).state = .recharge then
      (s.putLampGroup g { s.lampGroup g with state := .idle, recharge := none }).reportTest g .recharged none
    else s)

/-- One lamp of a GET_LAMP_GROUP reply (R162). -/
def State.lampView (s : State) (p : Nat) : LampView :=
  let l := (s.lamp p).getD (.fresh default)
  ⟨p, l.cfg.maintained, l.included, l.outcome, l.lampFault, l.battery, (s.point p).word, (s.point p).health,
    (s.point p).isolation.view⟩

def serveGetLampGroup (tag : Byte) (g : Nat) (s : State) : State :=
  let i := Instr.getLampGroup tag g
  if 3 < g then s.refuse i .noObject
  else
    let r := s.lampGroup g
    s.reply i .ok (.lampGroup
      ⟨r.length, r.state, r.remaining.left, r.suspended, leftOf r.recharge, r.last, s.fire.mainsOk.level,
        (s.lampsOf g).map s.lampView⟩)

/-- GET_LAMP_GROUP (R162). -/
def execGetLampGroup (tag : Byte) (g : Nat) (s : State) : Host.Outcome State Fault Refusal :=
  request (.getLampGroup tag g) (serveGetLampGroup tag g) s

end Sys2Proof.Machine
end

