-- ==== Sys2Proof/Machine/Signs.lean ====
section
/-! DEFINITION. The route and sign controller (10): usability of exits, route choice, faces, sequences, sign replies, and
its commands. -/

namespace Sys2Proof.Machine

/-! ## Routes and faces (R146, R150, R151, R153) -/

/-- The RSC writes a sign's shown face as its point's face code (R151). -/
def State.writeSign (s : State) (n : Nat) : State :=
  match (s.sign n).cfg with
  | some c => s.setWord c.point (.sign (s.shownFace (s.sign n) c))
  | none => s

/-- The step a sign of configuration `c` takes at a restart of its sequence (R153): the phase offset modulo the count,
for that step's duration. -/
def State.restartStep (s : State) (c : SignCfg) : Option StepState :=
  match c.sequence with
  | some q =>
    let idx := c.phase % (s.routes.sequences.get q).count
    some ⟨idx, (s.stepAt q idx).duration⟩
  | none => none

/-- The step a sign shows when its chosen entry becomes `chosen` (R153): none unless it is sequencing, a restart when it
begins sequencing or its chosen face changes, and otherwise the step it is on. -/
def State.stepFor (s : State) (c : SignCfg) (old : Sign) (chosen : Option Nat) : Option StepState :=
  if s.evacuate && c.sequence.isSome && c.chosenFace chosen != .noExit then
    match old.step with
    | some st => if c.chosenFace old.chosen = c.chosenFace chosen then some st else s.restartStep c
    | none => s.restartStep c
  else none

/-- The route of one sign is recomputed, its face written, and a change of its chosen entry reported (R150). The entry
before and the entry after are compared by their places in the list, none for a sign that was not configured (log 53). -/
def State.chooseRoute (s : State) (cause : RouteCause) (n : Nat) : State :=
  match (s.sign n).cfg with
  | none => s
  | some c =>
    let old := s.sign n
    let chosen := s.chooseEntry c
    let t := (s.putSign n { old with chosen := chosen, step := s.stepFor c old chosen }).writeSign n
    if chosen = old.chosen then t
    else t.report (.routeChange n c.point chosen (c.chosenFace chosen) (t.shownFace (t.sign n) c) cause)

/-- The usability of every exit is recomputed (R146). -/
def State.recomputeUsable (s : State) : State :=
  { s with routes.exits := s.routes.exits.map fun _ e => { e with usable := s.exitUsable e } }

/-- The usability of every exit and the route of every sign are recomputed (R146, R150), the signs in ascending number, so
that several changes report ROUTE_CHANGE in that order (the spec gives none; log 37). -/
def State.reroute (s : State) (cause : RouteCause) : State :=
  s.recomputeUsable.each (List.range 64) fun n t => t.chooseRoute cause n

/-- A sequencing sign's step count runs out: it advances to its next step (R153). -/
def State.advanceStep (s : State) (n : Nat) : State :=
  match (s.sign n).cfg, (s.sign n).step with
  | some c, some st =>
    match c.sequence with
    | some q =>
      let idx := if st.index + 1 < (s.routes.sequences.get q).count then st.index + 1 else 0
      (s.putSign n { s.sign n with step := some ⟨idx, (s.stepAt q idx).duration⟩ }).writeSign n
    | none => s
  | _, _ => s

/-- A sequencing sign takes one step of count at a scan start of its loop (R153). -/
def State.countStep (s : State) (n : Nat) : State :=
  match (s.sign n).step with
  | some st => if 1 < st.scans then s.putSign n { s.sign n with step := some ⟨st.index, st.scans - 1⟩ } else s.advanceStep n
  | none => s

/-- A scan of a loop starts: every sequencing sign on the loop takes one step of count (R153). -/
def State.signsSeeScanStart (s : State) (l : LoopId) : State :=
  s.each (List.range 64) fun n t =>
    match (t.sign n).cfg with
    | some c => if loopOf c.point = l then t.countStep n else t
    | none => t

/-! ## Sign points (R154) -/

/-- A good reply from a SIGN point (R154). -/
def State.signReply (s : State) (p : Nat) (faceGood : Bool) : State :=
  match s.signOf p with
  | none => s
  | some n =>
    if !faceGood && !(s.sign n).fault && !s.effective p then
      (s.putSign n { s.sign n with fault := true }).raise .signFault (.point p)
    else if faceGood && (s.sign n).fault then
      (s.putSign n { s.sign n with fault := false }).endAlarm .signFault (.point p)
    else s

/-- A SIGN point comes under effective isolation (R154). -/
def State.isolateSign (s : State) (p : Nat) : State :=
  match s.signOf p with
  | some n => s.putSign n { s.sign n with fault := false }
  | none => s

/-! ## Commands -/

def serveCfgExit (tag : Byte) (e : Nat) (setting : Option ExitSetting) (s : State) : State :=
  let i := Instr.cfgExit tag e setting
  match s.cfgRefusal with
  | some st => s.refuse i st
  | none =>
    if 11 < e then s.refuse i .noObject
    else
      match setting with
      | some c =>
        if c.door.any (fun d => 31 < d || !(s.door d).configured) || c.zone.any (fun z => 47 < z) then
          s.refuse i .badValue
        else if (s.exit e).cfg = some c then s.accept i
        else ((s.putExit e { s.exit e with cfg := some c }).reroute .config).accept i
      | none =>
        if (List.range 64).any fun n =>
            (s.sign n).cfg.any fun c => c.entries.any fun r => r.exit == e then s.refuse i .wrongState
        else if (s.exit e).cfg = none then s.accept i
        else ((s.putExit e { s.exit e with cfg := none, blocked := false }).reroute .config).accept i

/-- CFG_EXIT (R145). -/
def execCfgExit (tag : Byte) (e : Nat) (setting : Option ExitSetting) (s : State) : Host.Outcome State Fault Refusal :=
  request (.cfgExit tag e setting) (serveCfgExit tag e setting) s

/-- A sign leaves its point: its SIGN_FAULT condition ends and the point is carried DARK (R148, R149). -/
def State.unbindSign (s : State) (n : Nat) : State :=
  match (s.sign n).cfg with
  | some c => (s.endAlarm .signFault (.point c.point)).setWord c.point (.sign .dark)
  | none => s

/-- A sign takes the configuration `c` (R149). The SIGN_FAULT of a point it leaves ends before the ROUTE_CHANGE of its new
choice (log 46). A sign that was not configured had none as its chosen entry, so its first computation sends ROUTE_CHANGE
CONFIG exactly when an entry qualifies; a sign that moves to another point keeps the entry it had (log 53). -/
def State.configureSign (s : State) (n : Nat) (c : SignCfg) : State :=
  let s :=
    if ((s.sign n).cfg.map (·.point)) = some c.point then s.putSign n { s.sign n with cfg := some c }
    else (s.unbindSign n).putSign n ⟨some c, (s.sign n).chosen, none, false⟩
  s.chooseRoute .config n

def serveCfgSign (tag : Byte) (n : Nat) (setting : Option SignSetting) (s : State) : State :=
  let i := Instr.cfgSign tag n setting
  match s.cfgRefusal with
  | some st => s.refuse i st
  | none =>
    if 63 < n then s.refuse i .noObject
    else
      match setting with
      | none =>
        if (s.sign n).cfg = none then s.accept i
        else ((s.unbindSign n).putSign n ⟨none, none, none, false⟩).accept i
      | some c =>
        if !s.isKind c.point .sign || (s.signOf c.point).any (fun m => m != n) then s.refuse i .badValue
        else
          match c.face, s.readRoutes c.entries with
          | some f, some es =>
            if f = .noExit ∨ 4 < es.length ∨ c.sequence.any (fun q => 15 < q) then s.refuse i .badValue
            else
              let cfg : SignCfg := ⟨c.point, f, es, c.sequence, clamp 0 7 c.phase⟩
              let s := if (s.sign n).cfg = some cfg then s else s.configureSign n cfg
              s.acceptClamped i (outside 0 7 c.phase) [cfg.phase]
          | _, _ => s.refuse i .badValue

/-- CFG_SIGN (R149). -/
def execCfgSign (tag : Byte) (n : Nat) (setting : Option SignSetting) (s : State) : Host.Outcome State Fault Refusal :=
  request (.cfgSign tag n setting) (serveCfgSign tag n setting) s

/-- Writes a list of steps to the step store from position `k` on (R152). -/
def State.writeSteps (s : State) (k : Nat) : List Step → State
  | [] => s
  | x :: xs => State.writeSteps { s with routes.steps := s.routes.steps.put k x } (k + 1) xs

def serveCfgSequence (tag : Byte) (q first count : Nat) (steps : List StepSetting) (s : State) : State :=
  let i := Instr.cfgSequence tag q first count steps
  match s.cfgRefusal with
  | some st => s.refuse i st
  | none =>
    if 15 < q then s.refuse i .noObject
    else if 63 < first ∨ outside 1 8 count ∨ 64 < first + count ∨ steps.length ≠ count then s.refuse i .badValue
    else
      match readSteps steps with
      | none => s.refuse i .badValue
      | some ss =>
        let s := State.writeSteps { s with routes.sequences := s.routes.sequences.put q ⟨first, count⟩ } first ss
        s.acceptClamped i (steps.any fun r => outside 1 20 r.duration) (ss.map (·.duration))

/-- CFG_SEQUENCE (R152). -/
def execCfgSequence (tag : Byte) (q first count : Nat) (steps : List StepSetting) (s : State) :
    Host.Outcome State Fault Refusal :=
  request (.cfgSequence tag q first count steps) (serveCfgSequence tag q first count steps) s

/-- BLOCK_EXIT and UNBLOCK_EXIT (R147): the exit's blocked becomes `b`. -/
def State.setBlocked (s : State) (i : Instr) (e : Nat) (b : Bool) : State :=
  if 11 < e ∨ (s.exit e).cfg = none then s.refuse i .noObject
  else
    let s := if (s.exit e).blocked = b then s else (s.putExit e { s.exit e with blocked := b }).reroute .exit
    s.reply i .ok (.exitState (s.exit e).blocked (s.exit e).usable)

def serveBlockExit (tag : Byte) (e : Nat) (s : State) : State := s.setBlocked (.blockExit tag e) e true

/-- BLOCK_EXIT (R147). -/
def execBlockExit (tag : Byte) (e : Nat) (s : State) : Host.Outcome State Fault Refusal :=
  request (.blockExit tag e) (serveBlockExit tag e) s

def serveUnblockExit (tag : Byte) (e : Nat) (s : State) : State := s.setBlocked (.unblockExit tag e) e false

/-- UNBLOCK_EXIT (R147). -/
def execUnblockExit (tag : Byte) (e : Nat) (s : State) : Host.Outcome State Fault Refusal :=
  request (.unblockExit tag e) (serveUnblockExit tag e) s

/-- SEQUENCE_STEP (R153): at a scan start the step scans remaining of a sequencing sign would fall to 0. -/
def execSequenceStep (n : Nat) (s : State) : Host.Outcome State Fault Refusal :=
  done
    (match (s.sign n).step with
     | some st => if st.scans ≤ 1 then s.advanceStep n else s
     | none => s)

/-- The exit of a sign's chosen entry. -/
def Sign.chosenExit (n : Sign) : Option Nat :=
  match n.cfg, n.chosen with
  | some c, some k => (c.entries[k]?).map (·.exit)
  | _, _ => none

def serveGetExit (tag : Byte) (e : Nat) (s : State) : State :=
  let i := Instr.getExit tag e
  if 11 < e then s.refuse i .noObject
  else
    let x := s.exit e
    s.reply i .ok (.exit
      ⟨x.cfg, x.blocked, x.usable, (x.cfg.bind (·.zone)).map fun z => (s.zone z).fire,
        (x.cfg.bind (·.door)).map fun d => (s.door d).jammed,
        (List.range 64).filter fun n => (s.sign n).chosenExit == some e⟩)

/-- GET_EXIT (R155). -/
def execGetExit (tag : Byte) (e : Nat) (s : State) : Host.Outcome State Fault Refusal :=
  request (.getExit tag e) (serveGetExit tag e) s

def serveGetSign (tag : Byte) (n : Nat) (s : State) : State :=
  let i := Instr.getSign tag n
  match (s.sign n).cfg with
  | none => s.refuse i .noObject
  | some c =>
    s.reply i .ok (.sign
      ⟨c, c.entries.map fun r => ((s.exit r.exit).usable, s.pathConfirmed r), (s.sign n).chosen,
        c.chosenFace (s.sign n).chosen, s.shownFace (s.sign n) c, (s.sign n).step, (s.sign n).fault,
        (s.point c.point).health, (s.point c.point).isolation.view⟩)

/-- GET_SIGN (R155). -/
def execGetSign (tag : Byte) (n : Nat) (s : State) : Host.Outcome State Fault Refusal :=
  request (.getSign tag n) (serveGetSign tag n) s

end Sys2Proof.Machine
end

