-- ==== Sys2Proof/Machine/Guarding.lean ====
section
/-! DEFINITION. The guard monitor (08): presence, the classing of openings in guarded zones, interception of call presses,
the quiet timer, passage grants, and its commands. -/

namespace Sys2Proof.Machine

def State.putPresence (s : State) (p : Nat) (b : Bool) : State :=
  { s with guard.presence := s.guard.presence.put p b }

def State.putDoorIntrusion (s : State) (d : Nat) (b : Bool) : State :=
  { s with guard.doorIntrusion := s.guard.doorIntrusion.put d b }

def State.putDoorExit (s : State) (d : Nat) (b : Bool) : State :=
  { s with guard.doorExit := s.guard.doorExit.put d b }

/-- The zone is guarded and no grant covers it (R121). -/
def State.watched (s : State) (z : Nat) : Bool := s.guarded z && !s.covered z

/-! ## Presence (R123) -/

/-- A good reply from a PRESENCE point (R123). -/
def State.presenceReply (s : State) (p : Nat) (active : Bool) : State :=
  if s.effective p then s
  else if active && !s.guard.presence.get p && s.watched (s.point p).cfg.zone then
    (s.putPresence p true).raise .intrusionPresence (.point p)
  else if !active && s.guard.presence.get p then (s.putPresence p false).endAlarm .intrusionPresence (.point p)
  else s

/-- A PRESENCE point's mark clears and its condition ends (R126). -/
def State.dropPresence (s : State) (p : Nat) : State :=
  if s.guard.presence.get p then (s.putPresence p false).endAlarm .intrusionPresence (.point p) else s

/-! ## Doors (R124 to R126) -/

/-- The class of a forced opening (R124), with INTRUSION_DOOR raised when it is INTRUSION. -/
def State.classForced (s : State) (d : Nat) : State × ForcedClass :=
  if s.watched (s.doorZone d) then ((s.putDoorIntrusion d true).raise .intrusionDoor (.door d), .intrusion)
  else (s, .forcing)

/-- An opening that is not forced and carries an exit release (R125). -/
def State.judgeExitUse (s : State) (d : Nat) : State :=
  if s.watched (s.doorZone d) && !s.doorIsolated d && !s.guard.doorExit.get d then
    (s.putDoorExit d true).raise .exitInSet (.door d)
  else s

/-- A closing, or a door remade or unconfigured: each mark of the door that is set clears and its condition ends
(R124, R125, R126), INTRUSION_DOOR before EXIT_IN_SET (log 44). -/
def State.endDoorMarks (s : State) (d : Nat) : State :=
  let s := if s.guard.doorIntrusion.get d then (s.putDoorIntrusion d false).endAlarm .intrusionDoor (.door d) else s
  if s.guard.doorExit.get d then (s.putDoorExit d false).endAlarm .exitInSet (.door d) else s

/-- A DOOR point comes under effective isolation: its marks clear (R126). -/
def State.clearDoorMarks (s : State) (d : Nat) : State := (s.putDoorIntrusion d false).putDoorExit d false

/-! ## Call presses (R127) -/

/-- A press routed through the GM is intercepted (R127). -/
def State.intercepts (s : State) (p : Nat) : Bool :=
  !s.evacuate && s.guard.quiet.isNone && (s.zone (s.point p).cfg.zone).fire == .normal && !s.effective p

/-! ## The quiet timer (R122) -/

/-- EVACUATE has changed: its end starts the quiet timer at 60 s, its beginning stops it. -/
def State.guardSeesEvacuate (s : State) : State :=
  { s with guard.quiet := if s.evacuate then none else some (.start 60) }

/-- GM_QUIET_TIMER_EXPIRY (R122): guarding resumes. -/
def execGmQuietTimerExpiry (s : State) : Host.Outcome State Fault Refusal :=
  done { s with guard.quiet := none }

/-! ## Passage grants (R128) -/

/-- The number after `n` in a cycle of 1 to 255. -/
def nextNumber (n : Nat) : Nat := if n = 255 then 1 else n + 1

/-- The first number from `n` on, in the cycle, that is not in use; at most `fuel` numbers are tried. -/
def freeNumber (used : List Nat) : Nat → Nat → Nat
  | 0, n => n
  | fuel + 1, n => if used.contains n then freeNumber used fuel (nextNumber n) else n

/-- The grants in the table with their slots. -/
def State.grantList (s : State) : List (Nat × Grant) :=
  (List.range 4).filterMap fun k => (s.guard.grants.get k).map fun g => (k, g)

/-- The lowest free slot of the grant table. -/
def State.freeSlot (s : State) : Option Nat := (List.range 4).find? fun k => (s.guard.grants.get k).isNone

/-- The slot of the grant that holds a number. -/
def State.grantSlot (s : State) (number : Nat) : Option Nat :=
  (List.range 4).find? fun k => ((s.guard.grants.get k).map (·.number)) == some number

/-- A grant ends (R128): its slot empties and the end is reported as GRANT. -/
def State.endGrant (s : State) (slot : Nat) (expired : Bool) : State :=
  match s.guard.grants.get slot with
  | some g =>
    State.report { s with guard.grants := s.guard.grants.put slot none } (.grant g.number slot g.zones expired)
  | none => s

def serveGrantPassage (tag : Byte) (zones : List Nat) (duration : Nat) (s : State) : State :=
  let i := Instr.grantPassage tag zones duration
  if zones.isEmpty || 4 < zones.length || zones.any (fun z => 47 < z) || !distinct zones then s.refuse i .badValue
  else
    match s.freeSlot with
    | none => s.refuse i .full
    | some k =>
      let n := freeNumber (s.grantList.map (·.2.number)) 255 s.guard.nextGrant
      let secs := clamp 30 900 duration
      let s := { s with
        guard.grants := s.guard.grants.put k (some ⟨n, zones, secs, .start secs, s.now⟩),
        guard.nextGrant := nextNumber n }
      s.reply i (clampStatus (outside 30 900 duration)) (.grant k n secs)

/-- GRANT_PASSAGE (R128). -/
def execGrantPassage (tag : Byte) (zones : List Nat) (duration : Nat) (s : State) : Host.Outcome State Fault Refusal :=
  request (.grantPassage tag zones duration) (serveGrantPassage tag zones duration) s

def serveEndPassage (tag : Byte) (number : Nat) (s : State) : State :=
  let i := Instr.endPassage tag number
  match s.grantSlot number with
  | some k => (s.endGrant k false).accept i
  | none => s.refuse i .noObject

/-- END_PASSAGE (R128). -/
def execEndPassage (tag : Byte) (number : Nat) (s : State) : Host.Outcome State Fault Refusal :=
  request (.endPassage tag number) (serveEndPassage tag number) s

/-- GRANT_EXPIRY (R128): the grant of this number expires. -/
def execGrantExpiry (number : Nat) (s : State) : Host.Outcome State Fault Refusal :=
  done
    (match s.grantSlot number with
     | some k => s.endGrant k true
     | none => s)

end Sys2Proof.Machine
end

