-- ==== Sys2Proof/Machine/DoorControl.lean ====
section
/-! DEFINITION. The door controller's shared operations (06, 07): a change of a door's record with all that follows from
it, the ruling of an interlock pair, replies of door points, holders, schedule causes and the release latch. -/

namespace Sys2Proof.Machine

/-! ## What a DOOR_STATE report shows (R94) -/

/-- The members of a door's cause set. The origin of TIMED is a field of the record beside the set (06, section 6.1): a
restart of TIMED with the other origin leaves the set as it was (R94; log 31). -/
structure Members where
  evac : Bool
  schedule : Bool
  hostHold : Bool
  timed : Bool
  exitLevel : Bool
deriving DecidableEq, Repr

def Causes.members (cs : Causes) : Members := ⟨cs.evac, cs.schedule, cs.hostHold, cs.timed.isSome, cs.exitLevel⟩

/-- The values whose change is reported as DOOR_STATE (R94). -/
structure DoorShown where
  causes : Members
  lock : Lock
  holder : Holder
  contact : Option Contact
  feedback : Option Lock
  forced : Option ForcedClass
  heldOpen : Bool
  lockFault : Bool
deriving DecidableEq, Repr

/-- The holder command in a door's output word. -/
def State.doorHolder (s : State) (d : Nat) : Holder :=
  match (s.door d).cfg.point with
  | some p =>
    match (s.point p).word with
    | .door _ h => h
    | _ => .drop
  | none => .drop

def State.doorShown (s : State) (d : Nat) : DoorShown :=
  let x := s.door d
  ⟨x.causes.members, x.causes.lock, s.doorHolder d, x.contact, x.feedback, x.forced, x.heldOpen, x.lockFault⟩

/-- The breach of the pair a door is a member of (R119). -/
def State.doorBreach (s : State) (d : Nat) : Bool :=
  match s.pairOf d with
  | some q => (s.pair q).breach
  | none => false

/-- DOOR_STATE for a door as it now stands (R94). -/
def State.reportDoor (s : State) (d : Nat) (ev : DoorEvent) : State :=
  let x := s.door d
  s.report (.doorState d x.cfg.point x.causes x.causes.lock (s.doorHolder d) x.contact x.feedback x.forced x.heldOpen
    x.lockFault (s.doorBreach d) ev)

/-- One event at a door: `f` takes it, and one DOOR_STATE is sent when it changed what DOOR_STATE shows (R94). -/
def State.doorEvent (s : State) (d : Nat) (ev : DoorShown → DoorShown → DoorEvent) (f : State → State) : State :=
  let t := f s
  if s.doorShown d = t.doorShown d then t else t.reportDoor d (ev (s.doorShown d) (t.doorShown d))

/-- The event named by which command a hand-off changed: `ev` for a change of causes, HOLDER otherwise. -/
def causeOrHolder (ev : DoorEvent) (x y : DoorShown) : DoorEvent := if x.causes = y.causes then .holder else ev

/-! ## Output words (R94, R107) -/

/-- The DC writes a door's lock command, from its causes (R94). -/
def State.writeLock (s : State) (d : Nat) : State :=
  match (s.door d).cfg.point with
  | some p => s.setWord p (.door (s.door d).causes.lock (s.doorHolder d))
  | none => s

/-- The DC writes a door's holder command (R107). -/
def State.writeHolder (s : State) (d : Nat) : State :=
  match (s.door d).cfg.point with
  | some p => s.setWord p (.door (s.door d).causes.lock (s.holderOf d))
  | none => s

/-- The word of a DOOR point bound to no door: lock FREE, holder DROP (R93). -/
def unboundDoorWord : OutWord := .door .free .drop

/-! ## Changing a door's record -/

/-- The allowance of a door runs (R104): contact OPEN, not held, not isolated. -/
def Door.outstays (x : Door) (isolated : Bool) : Bool :=
  x.contact == some .opened && !x.causes.held && !isolated

/-- The record `new` of a door that held `old`, with what follows in the record itself: the grace timer when a cause has
left (R94; not at the release of a LEVEL button whose TIMED is added, R100), the mismatch count at a change of the
commanded lock (R94), and the allowance at the moment its three conditions become or cease to be true (R104, R95). -/
def Door.follow (old new : Door) (isolated graceless : Bool) : Door :=
  let runs := new.outstays isolated
  let starts := runs && !old.outstays isolated
  { new with
    grace := if old.causes.leaves new.causes && !graceless then some (.start 2) else new.grace
    mismatch := if old.causes.lock = new.causes.lock then new.mismatch else 0
    allow := if starts then some (.start new.cfg.allowance) else if runs then new.allow else none
    inUseAllowance := if starts then new.cfg.allowance else new.inUseAllowance }

/-- A change of a door's record: the record, the lock command, and a changed jam handed to the RSC (R94, R105). The
ROUTE_CHANGE reports of the jam come before the DOOR_STATE of the event (the spec gives no order; log 37). -/
def State.changeRecord (s : State) (d : Nat) (new : Door) (graceless : Bool) : State :=
  let old := s.door d
  let x := old.follow new (s.doorIsolated d) graceless
  let s := s.putDoor d x
  let s := if old.causes.lock = x.causes.lock then s else s.writeLock d
  if old.jammed = x.jammed then s else s.reroute .exit

/-! ## Quiet doors of a pair (R114) -/

/-- The other door of a pair. -/
def partnerIn (c : PairSetting) (d : Nat) : Nat := if c.doorX = d then c.doorY else c.doorX

def Pair.quietOf (p : Pair) (c : PairSetting) (d : Nat) : Quiet := if c.doorX = d then p.quietX else p.quietY

def Pair.setQuiet (p : Pair) (c : PairSetting) (d : Nat) (q : Quiet) : Pair :=
  if c.doorX = d then { p with quietX := q } else { p with quietY := q }

/-- The quiet state a door that has just become quiet takes: SETTLED at once with a dead time of 0 (R114). -/
def quietStart (dead : Nat) : Quiet := if dead = 0 then .settled else .quiet (.start dead)

/-- The pair sees a change of a door's causes or contact (R114). -/
def State.seeQuiet (s : State) (d : Nat) : State :=
  match s.pairOf d with
  | none => s
  | some q =>
    match (s.pair q).cfg with
    | none => s
    | some c =>
      if (s.door d).isQuiet then
        if (s.pair q).quietOf c d = .notQuiet then s.putPair q ((s.pair q).setQuiet c d (quietStart c.dead)) else s
      else s.putPair q ((s.pair q).setQuiet c d .notQuiet)

/-- The door stands SETTLED in its pair. -/
def State.settled (s : State) (d : Nat) : Bool :=
  match s.pairOf d with
  | none => false
  | some q =>
    match (s.pair q).cfg with
    | none => false
    | some c => (s.pair q).quietOf c d == .settled

/-! ## Adding a cause -/

/-- TIMED starts or restarts (R95, R96). -/
def Door.withTimed (x : Door) (o : Origin) (secs : Nat) : Door :=
  { x with
    causes := { x.causes with timed := some o }
    inUseRelease := secs
    release := some (.start secs)
    openedTimed := if x.causes.timed.isSome then x.openedTimed else x.contact == some .opened }

/-- TIMED leaves the set (R96, R102). -/
def Door.withoutTimed (x : Door) : Door :=
  { x with causes := { x.causes with timed := none }, release := none, openedTimed := false }

/-- A stored cause is added to a door as its own rule gives (R116). -/
def Door.withPending (x : Door) : PendingCause → Door
  | .hostHold => { x with causes := { x.causes with hostHold := true } }
  | .timed secs o => x.withTimed o secs

/-- The DOOR_STATE event of a granted request (R116). -/
def PendingCause.event : PendingCause → DoorEvent
  | .hostHold => .request
  | .timed _ .host => .request
  | .timed _ .exit => .exitInput

/-- A door has become SETTLED: a request of its partner waiting in the slot is granted, reported as PASS_RESULT and as
DOOR_STATE (R116). The DOOR_STATE is sent at every grant, one that restarts TIMED or finds HOST_HOLD included: R116 names
it for the grant, where R94 speaks of events in general (log 32). PASS_RESULT goes before the ROUTE_CHANGE reports of a jam
that the grant changes, and DOOR_STATE after them (log 44). -/
def State.grantPartner (s : State) (d : Nat) : State :=
  match s.pairOf d with
  | none => s
  | some q =>
    match (s.pair q).cfg, (s.pair q).slot with
    | some c, some r =>
      if r.door = partnerIn c d then
        let s := (s.putPair q { s.pair q with slot := none }).report (.passResult q r.door r.cause .granted)
        ((s.changeRecord r.door ((s.door r.door).withPending r.cause) false).seeQuiet r.door).reportDoor r.door
          r.cause.event
      else s
    | _, _ => s

/-- A change of a door's record with all that follows: the record and its commands, and the quiet state of its pair,
which may grant a waiting request of the partner (R94, R104, R105, R114, R116). With a dead time of 0 the partner's
PASS_RESULT and DOOR_STATE so go before the DOOR_STATE of the door whose own event made it SETTLED (log 44). -/
def State.changeDoor (s : State) (d : Nat) (new : Door) (graceless : Bool := false) : State :=
  let t := (s.changeRecord d new graceless).seeQuiet d
  if !s.settled d && t.settled d then t.grantPartner d else t

/-! ## The ruling of a pair (R115) -/

/-- What a pair decides on an addition (R115). -/
inductive Ruling where
  | added | pending | refused
deriving DecidableEq, Repr

/-- The ruling on an addition of HOST_HOLD, TIMED or EXIT_LEVEL (R115); a door of no pair takes it. `waits` is yes for a
host request and an EDGE press, which may wait in the pending slot. -/
def State.ruling (s : State) (d : Nat) (waits : Bool) : Ruling :=
  match s.pairOf d with
  | none => .added
  | some q =>
    match (s.pair q).cfg with
    | none => .added
    | some c =>
      let partner := partnerIn c d
      if (s.pair q).slot.any (fun r => r.door == partner) then .refused
      else if (s.door partner).causes.evac then .refused
      else if (s.pair q).quietOf c partner = .settled then .added
      else if waits then .pending
      else .refused

/-- A request is placed in the pending slot, replacing one for the same door (R115). At an EDGE press the PASS_RESULT
CANCELLED REPLACED goes before the DOOR_STATE of the same reply (log 44). -/
def State.placePending (s : State) (d : Nat) (cause : PendingCause) : State :=
  match s.pairOf d with
  | none => s
  | some q =>
    match (s.pair q).cfg with
    | none => s
    | some c =>
      let s :=
        match (s.pair q).slot with
        | some r => s.report (.passResult q r.door r.cause .cancelledReplaced)
        | none => s
      s.putPair q { s.pair q with slot := some ⟨d, cause, .start c.wait⟩ }

/-- A pair's pending slot is emptied, reported with `result` (R116). -/
def State.emptySlot (s : State) (q : Nat) (result : PassResult) : State :=
  match (s.pair q).slot with
  | some r => (s.putPair q { s.pair q with slot := none }).report (.passResult q r.door r.cause result)
  | none => s

/-- An egress door while the release latch holds any cause takes no cause of a request or a press (R108). -/
def State.barred (s : State) (d : Nat) : Bool := (s.door d).cfg.egress && s.latched

/-! ## Breach (R119) -/

/-- A pair is judged for breach: both doors OPEN, the latch empty, neither point isolated, breach no (R119). -/
def State.judgeBreach (s : State) (q : Nat) : State :=
  match (s.pair q).cfg with
  | some c =>
    if (s.door c.doorX).contact == some .opened && (s.door c.doorY).contact == some .opened && !s.latched
        && !s.doorIsolated c.doorX && !s.doorIsolated c.doorY && !(s.pair q).breach then
      (s.putPair q { s.pair q with breach := true }).raise .interlockBreach (.pair q)
    else s
  | none => s

/-- A standing breach of a pair ends (R119). -/
def State.endBreach (s : State) (q : Nat) : State :=
  if (s.pair q).breach then
    (s.putPair q { s.pair q with breach := false }).endAlarm .interlockBreach (.pair q)
  else s

/-- Applies `f` to the pair a door is a member of, if any. -/
def State.withPair (s : State) (d : Nat) (f : State → Nat → State) : State :=
  match s.pairOf d with
  | some q => f s q
  | none => s

/-! ## Replies of a door point (R98 to R106) -/

/-- The lock feedback of a reply (R105), with LOCK_FAULT raised afresh at the first reply after isolation (R106). The
ROUTE_CHANGE reports of a changed jam come before the LOCK_FAULT entry (log 44). -/
def State.judgeFeedback (s : State) (d : Nat) (fb : Lock) : State :=
  let x := s.door d
  if fb = x.causes.lock then
    let t := s.changeDoor d { x with feedback := some fb, mismatch := 0, lockFault := false }
    if x.lockFault then t.endAlarm .lockFault (.door d) else t
  else
    let m := min 3 (x.mismatch + 1)
    let sets := m = 3 && !x.lockFault
    let t := s.changeDoor d { x with feedback := some fb, mismatch := m, lockFault := x.lockFault || sets }
    if (sets || (x.afresh && x.lockFault)) && !s.doorIsolated d then t.raise .lockFault (.door d) else t

/-- An EDGE press (R99). -/
def State.pressEdge (s : State) (d : Nat) : State :=
  let x := s.door d
  if s.barred d then s
  else
    match s.ruling d true with
    | .added => s.changeDoor d (x.withTimed .exit x.cfg.releaseTime)
    | .pending => s.placePending d (.timed x.cfg.releaseTime .exit)
    | .refused => s

/-- A LEVEL button held (R100). -/
def State.pressLevel (s : State) (d : Nat) : State :=
  let x := s.door d
  if x.causes.exitLevel || s.barred d then s
  else
    match s.ruling d false with
    | .added => s.changeDoor d { x with causes := { x.causes with exitLevel := true } }
    | _ => s

/-- A LEVEL button released (R100): EXIT_LEVEL leaves and TIMED is added, without grace unless the pair refuses. -/
def State.releaseLevel (s : State) (d : Nat) : State :=
  let x := s.door d
  if x.causes.exitLevel then
    let y := { x with causes := { x.causes with exitLevel := false } }
    match s.ruling d false with
    | .added => s.changeDoor d (y.withTimed .exit x.cfg.releaseTime) (graceless := true)
    | _ => s.changeDoor d y
  else s

/-- The exit input of a reply (R98, R99, R100). The first reply of a record made anew is no EDGE press (R99). An
EXIT_LEVEL that stands in the set when CFG_DOOR takes the mode from LEVEL to EDGE or OFF is not removed by a release of
the button (R100 speaks of mode LEVEL alone, and in mode OFF the input is used for nothing; log 33). -/
def State.judgeExitInput (s : State) (d : Nat) (pressed : Bool) : State :=
  let x := s.door d
  let t :=
    match x.cfg.exitMode with
    | .off => s
    | .edge => if pressed && x.exitPressed == some false && !x.unread then s.pressEdge d else s
    | .level => if pressed then s.pressLevel d else s.releaseLevel d
  t.putDoor d { t.door d with exitPressed := some pressed, unread := false }

/-- A forced opening is given its class (R103, R124). -/
def State.forceDoor (s : State) (d : Nat) : State :=
  let (t, cls) := s.classForced d
  let t := t.putDoor d { t.door d with forced := some cls }
  if cls = .forcing then t.raise .doorForced (.door d) else t

/-- An opening (R98, R102 to R104, R119, R124, R125). OPEN where the record held CLOSED, found at the first good reply
after isolation, is not judged forced (R106), and is an opening (R98) for every other purpose: the close-ignore window,
opened under TIMED, the exit use handed to the GM (R125) and the breach of the pair (R119). R106 says that no opening is
seen there, of the forced condition alone; the rest is the model's reading (log 34). The entry of the opening
comes before INTERLOCK_BREACH (log 44). -/
def State.openDoor (s : State) (d : Nat) : State :=
  let x := s.door d
  let forced := x.causes.isEmpty && x.grace.isNone && !s.doorIsolated d && !x.afresh
  let s := s.changeDoor d
    { x with
      contact := some .opened, ignore := some (.start 1), openedTimed := x.openedTimed || x.causes.timed.isSome }
  let s := if forced then s.forceDoor d else if x.causes.exitRelease then s.judgeExitUse d else s
  s.withPair d State.judgeBreach

/-- Relock on close ends a timed release at this closing (R102). -/
def Door.relocks (x : Door) : Bool :=
  x.cfg.relock && x.causes.timed.isSome && x.openedTimed && x.ignore.isNone

/-- A closing (R98, R102 to R104, R119, R124, R125). A breach of the pair ends first, so that every report of this event
shows it ended (R119), and then DOOR_FORCED, DOOR_HELD_OPEN and the GM's marks in that order. Where the closing makes the
door SETTLED at once, the partner's PASS_RESULT and DOOR_STATE of a grant go after the end of the breach and before the
ends of the door's own entries (log 44). -/
def State.closeDoor (s : State) (d : Nat) : State :=
  let s := s.withPair d State.endBreach
  let x := s.door d
  let y := { x with contact := some .closed, forced := none, heldOpen := false }
  let s := s.changeDoor d (if x.relocks then y.withoutTimed else y)
  let s := if x.forced = some .forcing then s.endAlarm .doorForced (.door d) else s
  let s := if x.heldOpen then s.endAlarm .doorHeldOpen (.door d) else s
  s.endDoorMarks d

/-- The contact of a reply (R98). -/
def State.judgeContact (s : State) (d : Nat) (c : Contact) : State :=
  match (s.door d).contact, c with
  | some .closed, .opened => s.openDoor d
  | some .opened, .closed => s.closeDoor d
  | _, _ => s.changeDoor d { s.door d with contact := some c }

/-- The first good reply after isolation has been judged: an open, unheld door starts its allowance (R104, R106). -/
def State.endAfresh (s : State) (d : Nat) : State :=
  let x := s.door d
  if x.afresh then
    if x.outstays (s.doorIsolated d) && x.allow.isNone then
      s.putDoor d { x with afresh := false, allow := some (.start x.cfg.allowance), inUseAllowance := x.cfg.allowance }
    else s.putDoor d { x with afresh := false }
  else s

/-- The event of a reply: CONTACT when the contact changed, EXIT_INPUT when the causes did, FEEDBACK otherwise. -/
def replyEvent (x y : DoorShown) : DoorEvent :=
  if x.contact ≠ y.contact then .contact else if x.causes ≠ y.causes then .exitInput else .feedback

/-- A good reply from a DOOR point: feedback, exit input and contact in order (R98); a point bound to no door reaches no
record (R93). -/
def State.doorReply (s : State) (p : Nat) (c : Contact) (pressed : Bool) (fb : Lock) : State :=
  match s.doorOf p with
  | none => s
  | some d =>
    s.doorEvent d replyEvent fun t =>
      (((t.judgeFeedback d fb).judgeExitInput d pressed).judgeContact d c).endAfresh d

/-- A DOOR point comes under effective isolation (R106, R119, R126). -/
def State.isolateDoor (s : State) (p : Nat) : State :=
  match s.doorOf p with
  | none => s
  | some d =>
    s.doorEvent d (fun _ _ => .isolation) fun t =>
      ((t.putDoor d { t.door d with forced := none, heldOpen := false, allow := none, afresh := false }).clearDoorMarks
        d).withPair d State.endBreach

/-- A DOOR point leaves effective isolation: its conditions are taken afresh at its first good reply (R106). -/
def State.freeDoor (s : State) (p : Nat) : State :=
  match s.doorOf p with
  | some d => s.putDoor d { s.door d with afresh := true }
  | none => s

/-! ## Schedule and holders (R101, R107) -/

/-- A door should hold SCHEDULE: it is public and its group is OPEN (R101). -/
def State.scheduled (s : State) (d : Nat) : Bool :=
  (s.door d).cfg.publicDoor && (s.group (s.doorGroup d)).mode == .openHours

/-- SCHEDULE and the holder of a door are recomputed (R101, R107). -/
def State.placeDoor (s : State) (d : Nat) : State :=
  let x := s.door d
  (s.changeDoor d { x with causes := { x.causes with schedule := s.scheduled d } }).writeHolder d

/-- A group's mode or procedure has changed (R77, R101, R107); its doors go in ascending number (log 43). -/
def State.doorsSeeMode (s : State) (g : Nat) : State :=
  s.each (s.doorsOf g) fun d t => t.doorEvent d (causeOrHolder .schedule) fun u => u.placeDoor d

/-- A zone's fire state has changed (R107); its doors go in ascending number (log 43). -/
def State.doorsSeeZone (s : State) (z : Nat) : State :=
  s.each (s.configuredDoors.filter fun d => s.doorZone d == z) fun d t =>
    t.doorEvent d (fun _ _ => .holder) fun u => u.writeHolder d

/-! ## The release latch (R108 to R110) -/

/-- The latch gains a cause while empty: an egress door holds EVAC, and of its other causes keeps SCHEDULE alone (R108). -/
def State.latchDoor (s : State) (d : Nat) : State :=
  let x := s.door d
  s.changeDoor d
    { x with
      causes := ⟨true, x.causes.schedule, false, none, false⟩, release := none, openedTimed := false }

/-- Every pair's pending slot is emptied at a gain of the latch (R108, R116, R118). -/
def State.emptySlots (s : State) : State := s.each (List.range 8) fun q t => t.emptySlot q .cancelledLatch

/-- EVACUATE has changed (R107, R108). At its beginning the latch gains EVAC; its end leaves the latch as it stands. The
reports go LATCH_STATE first, then DOOR_STATE in ascending door and PASS_RESULT in ascending pair number (log 44). -/
def State.doorsSeeEvacuate (s : State) : State :=
  if s.evacuate then
    let free := !s.latched
    let t : State := { s with doors.latchEvac := true }
    let t := if s.doors.latchEvac then t else t.report (.latchState true s.doors.latchStartUp true true)
    let t := t.each t.configuredDoors fun d u =>
      u.doorEvent d (causeOrHolder .latch) fun v =>
        (if free && (v.door d).cfg.egress then v.latchDoor d else v).writeHolder d
    t.emptySlots
  else
    s.each s.configuredDoors fun d t => t.doorEvent d (fun _ _ => .holder) fun u => u.writeHolder d

/-- A door of an emptied latch (R110): EVAC leaves its set, and its grace timer starts. -/
def State.unlatchDoor (s : State) (d : Nat) : State :=
  let x := s.door d
  s.changeDoor d { x with causes := { x.causes with evac := false }, grace := some (.start 2) }

/-- The latch has become empty (R110). Every door is changed and every pair judged for breach (R119) before the reports of
the event, which show the breaches that stand from here on (log 37). The pairs are judged in ascending number, so several
breaches are raised in that order, after any ROUTE_CHANGE of the same event (log 44). -/
def State.latchEmpties (s : State) : State :=
  let t := s.each s.configuredDoors fun d u => u.unlatchDoor d
  let t := t.each (List.range 8) fun q u => u.judgeBreach q
  t.each s.configuredDoors fun d u => if s.doorShown d = t.doorShown d then u else u.reportDoor d .latch

/-- The latch loses EVAC (R110). -/
def State.latchLosesEvac (s : State) : State :=
  let s := State.report { s with doors.latchEvac := false } (.latchState false s.doors.latchStartUp true false)
  if s.latched then s else s.latchEmpties

/-- The latch loses START_UP (R109). -/
def State.latchLosesStartUp (s : State) : State :=
  let s := State.report { s with doors.latchStartUp := false } (.latchState s.doors.latchEvac false false false)
  if s.latched then s else s.latchEmpties

/-- An end of scan is announced to the DC (R2, R109): each loop's count stops at 4, and START_UP leaves the latch at the
end of scan that brings the second count to 4. -/
def State.doorsSeeScanEnd (s : State) (l : LoopId) : State :=
  let s : State :=
    match l with
    | .a => { s with doors.scansA := min 4 (s.doors.scansA + 1) }
    | .b => { s with doors.scansB := min 4 (s.doors.scansB + 1) }
  if s.doors.scansA = 4 ∧ s.doors.scansB = 4 ∧ s.doors.latchStartUp then s.latchLosesStartUp else s

end Sys2Proof.Machine
end

