-- ==== Sys2Proof/Machine/Doors.lean ====
section
/-! DEFINITION. The door controller's commands (06): configuration, requests, the door timers and the latch. -/

namespace Sys2Proof.Machine

/-! ## Requests (R96, R97, R110) -/

/-- The status of an addition by a host request: OK, PENDING or INTERLOCKED (R96, R97, R115). -/
def Ruling.status (r : Ruling) (clamped : Bool) : Status :=
  match r with
  | .added => clampStatus clamped
  | .pending => .pending
  | .refused => .interlocked

/-- A host request puts `cause` to a door: nothing for a barred door (R108), otherwise as the pair rules (R94, R115). -/
def State.addByRequest (s : State) (d : Nat) (cause : PendingCause) : State × Ruling :=
  if s.barred d then (s, .added)
  else
    match s.ruling d true with
    | .added =>
      (s.doorEvent d (fun _ _ => .request) fun t => t.changeDoor d ((t.door d).withPending cause), .added)
    | .pending => (s.placePending d cause, .pending)
    | .refused => (s, .refused)

/-- The number is that of no configured door. -/
def State.noDoor (s : State) (d : Nat) : Bool := 31 < d || !(s.door d).configured

/-- The length a RELEASE_DOOR asks for (R96): the seconds given, clamped, or the configured release time. -/
def Door.lengthFor (x : Door) (seconds : Option Nat) : Nat :=
  match seconds with
  | some n => clamp 1 60 n
  | none => x.cfg.releaseTime

def serveReleaseDoor (tag : Byte) (d : Nat) (seconds : Option Nat) (s : State) : State :=
  let i := Instr.releaseDoor tag d seconds
  if s.noDoor d then s.refuse i .noObject
  else
    let (t, r) := s.addByRequest d (.timed ((s.door d).lengthFor seconds) .host)
    t.reply i (r.status (seconds.any (outside 1 60))) (.causes (t.door d).causes)

/-- RELEASE_DOOR (R96). -/
def execReleaseDoor (tag : Byte) (d : Nat) (seconds : Option Nat) (s : State) : Host.Outcome State Fault Refusal :=
  request (.releaseDoor tag d seconds) (serveReleaseDoor tag d seconds) s

def serveHoldDoor (tag : Byte) (d : Nat) (s : State) : State :=
  let i := Instr.holdDoor tag d
  if s.noDoor d then s.refuse i .noObject
  else if (s.door d).causes.hostHold then s.reply i .ok (.causes (s.door d).causes)
  else
    let (t, r) := s.addByRequest d .hostHold
    t.reply i (r.status false) (.causes (t.door d).causes)

/-- HOLD_DOOR (R97). -/
def execHoldDoor (tag : Byte) (d : Nat) (s : State) : Host.Outcome State Fault Refusal :=
  request (.holdDoor tag d) (serveHoldDoor tag d) s

/-- A pending request for a door is cancelled by LOCK_DOOR (R116). -/
def State.cancelFor (s : State) (d : Nat) : State :=
  s.withPair d fun t q => if (t.pair q).slot.any (fun r => r.door == d) then t.emptySlot q .cancelledLock else t

/-- A served LOCK_DOOR (R97). The PASS_RESULT of a pending request it cancels goes before the DOOR_STATE of the causes it
removes (log 44). -/
def serveLockDoor (tag : Byte) (d : Nat) (s : State) : State :=
  let i := Instr.lockDoor tag d
  if s.noDoor d then s.refuse i .noObject
  else
    let x := s.door d
    let s := s.cancelFor d
    let s :=
      if x.causes.hostHold || x.causes.timed.isSome then
        s.doorEvent d (fun _ _ => .request) fun t =>
          t.changeDoor d { x.withoutTimed with causes := { x.causes with hostHold := false, timed := none } }
      else s
    s.reply i .ok (.causes (s.door d).causes)

/-- LOCK_DOOR (R97). -/
def execLockDoor (tag : Byte) (d : Nat) (s : State) : Host.Outcome State Fault Refusal :=
  request (.lockDoor tag d) (serveLockDoor tag d) s

def serveDoorRestore (tag : Byte) (s : State) : State :=
  let i := Instr.doorRestore tag
  if s.evacuate then s.refuse i .evacuating
  else if !s.doors.latchEvac then s.refuse i .wrongState
  else
    let s := s.latchLosesEvac
    s.reply i .ok (.latch s.doors.latchEvac s.doors.latchStartUp)

/-- DOOR_RESTORE (R110). -/
def execDoorRestore (tag : Byte) (s : State) : Host.Outcome State Fault Refusal :=
  request (.doorRestore tag) (serveDoorRestore tag) s

/-! ## Configuration (R92, R93) -/

/-- The entries a door's watch flags had raised end, and its marks in the GM (R92, R126), in this order (log 44). -/
def State.endDoorEntries (s : State) (d : Nat) : State :=
  (s.endAll [(.doorForced, .door d), (.doorHeldOpen, .door d), (.lockFault, .door d)]).endDoorMarks d

/-- The point of a door is left bound to no door (R93). -/
def State.releasePoint (s : State) (d : Nat) : State :=
  match (s.door d).cfg.point with
  | some p => s.setWord p unboundDoorWord
  | none => s

/-- The contact, exit input and feedback of a point's last input (R92). -/
def Point.doorInput (p : Point) : Option (Contact × Bool × Lock) :=
  match p.lastInput with
  | some (.door c e f) => some (c, e, f)
  | _ => none

/-- The word a point carries, for a point that is there. -/
def State.wordAt (s : State) (p : Option Nat) : Option OutWord := p.map fun n => (s.point n).word

/-- What a taken CFG_DOOR does to its door, and its DOOR_STATE with event CONFIG: sent when it changed what DOOR_STATE
shows (R94), or the output word of the point the door had or of the one it has (R92; log 35). -/
def State.configEvent (s : State) (d : Nat) (f : State → State) : State :=
  let t := f s
  let was := (s.door d).cfg.point
  let is := (t.door d).cfg.point
  if s.doorShown d = t.doorShown d ∧ s.wordAt was = t.wordAt was ∧ s.wordAt is = t.wordAt is then t
  else t.reportDoor d .config

/-- A record made anew from the point of the configuration `c` (R92): its values from the point's last input, its causes
SCHEDULE alone or none, its allowance running when the conditions of R104 stand together. Its in-use release time and
in-use allowance are the new configured values at once, as at a start (R91); R92 does not name them (log 55). -/
def State.remadeDoor (s : State) (d : Nat) (c : DoorCfg) : State :=
  let s := s.putDoor d (Door.fresh c .none)
  let i := (s.point (c.point.getD 0)).doorInput
  let x : Door := { Door.fresh c ⟨false, s.scheduled d, false, none, false⟩ with
    contact := i.map (·.1), exitPressed := i.map (·.2.1), feedback := i.map (·.2.2) }
  let x := if x.outstays (s.doorIsolated d) then { x with allow := some (.start c.allowance) } else x
  (s.putDoor d x).writeHolder d

/-- A taken CFG_DOOR (R92). -/
def State.configureDoor (s : State) (d : Nat) (c : DoorCfg) : State :=
  s.configEvent d fun t =>
    if (t.door d).cfg.point = c.point then (t.putDoor d { t.door d with cfg := c }).placeDoor d
    else ((t.endDoorEntries d).releasePoint d).remadeDoor d c

/-- A door is unconfigured (R92). The lock and holder that a DOOR_STATE shows are the point's word (6.1), and the point is
now absent: its DOOR_STATE carries point absent, LOCK and DROP, whatever word the old point is left with (log 51). -/
def State.unconfigureDoor (s : State) (d : Nat) : State :=
  s.configEvent d fun t => ((t.endDoorEntries d).releasePoint d).putDoor d (.fresh .unused .none)

/-- An interlock pair or an exit names the door (R92). -/
def State.doorNamed (s : State) (d : Nat) : Bool :=
  (s.pairOf d).isSome || (List.range 12).any fun e => (s.exit e).cfg.any fun c => c.door == some d

/-- The refusals CFG_DOOR and CFG_PAIR share (R92, R113, R168). -/
def State.cfgDoorRefusal (s : State) : Option Status :=
  match s.cfgRefusal with
  | some st => some st
  | none => if s.latched then some .wrongState else none

def serveCfgDoor (tag : Byte) (d : Nat) (setting : Option DoorSetting) (s : State) : State :=
  let i := Instr.cfgDoor tag d setting
  match s.cfgDoorRefusal with
  | some st => s.refuse i st
  | none =>
    if 31 < d then s.refuse i .noObject
    else
      match setting with
      | none =>
        if !(s.door d).configured then s.accept i
        else if s.doorNamed d then s.refuse i .wrongState
        else (s.unconfigureDoor d).accept i
      | some c =>
        if !s.isKind c.point .door || !isPoint c.point || (s.doorOf c.point).any (fun e => e != d) then
          s.refuse i .badValue
        else
          match c.exitMode with
          | none => s.refuse i .badValue
          | some m =>
            if c.publicDoor && (s.pairOf d).isSome then s.refuse i .badValue
            else if (s.door d).configured && (s.door d).cfg.point != some c.point && s.doorNamed d then
              s.refuse i .wrongState
            else
              let cfg : DoorCfg := ⟨some c.point, c.egress, c.publicDoor, c.holder, clamp 1 60 c.releaseTime,
                clamp 5 600 c.allowance, m, c.relock⟩
              let s := if (s.door d).cfg = cfg then s else s.configureDoor d cfg
              s.acceptClamped i (outside 1 60 c.releaseTime || outside 5 600 c.allowance)
                [cfg.releaseTime, cfg.allowance]

/-- CFG_DOOR (R92). -/
def execCfgDoor (tag : Byte) (d : Nat) (setting : Option DoorSetting) (s : State) : Host.Outcome State Fault Refusal :=
  request (.cfgDoor tag d setting) (serveCfgDoor tag d setting) s

/-! ## Observing (R111) -/

def serveGetDoor (tag : Byte) (d : Nat) (s : State) : State :=
  let i := Instr.getDoor tag d
  if s.noDoor d then s.refuse i .noObject
  else
    let x := s.door d
    let g := s.group (s.doorGroup d)
    s.reply i .ok (.door
      { cfg := x.cfg, zone := s.doorZone d, mode := g.mode, setting := g.setting.isSome,
        inUseRelease := x.inUseRelease, inUseAllowance := x.inUseAllowance, causes := x.causes,
        openedTimed := x.openedTimed, release := leftOf x.release, allow := leftOf x.allow, grace := leftOf x.grace,
        lock := x.causes.lock, holder := s.doorHolder d, contact := x.contact, feedback := x.feedback,
        exitPressed := x.exitPressed, mismatch := x.mismatch, forced := x.forced, heldOpen := x.heldOpen,
        lockFault := x.lockFault, jammed := x.jammed, pair := s.pairOf d, latchEvac := s.doors.latchEvac,
        latchStartUp := s.doors.latchStartUp, scansA := s.doors.scansA, scansB := s.doors.scansB })

/-- GET_DOOR (R111). -/
def execGetDoor (tag : Byte) (d : Nat) (s : State) : Host.Outcome State Fault Refusal :=
  request (.getDoor tag d) (serveGetDoor tag d) s

/-! ## Timers -/

/-- RELEASE_TIMER_EXPIRY (R96): TIMED leaves the set. -/
def execReleaseTimerExpiry (d : Nat) (s : State) : Host.Outcome State Fault Refusal :=
  done
    (if (s.door d).release.isSome then
      s.doorEvent d (fun _ _ => .timer) fun t => t.changeDoor d (t.door d).withoutTimed
    else s)

/-- GRACE_TIMER_EXPIRY (R94): the grace timer becomes absent. -/
def execGraceTimerExpiry (d : Nat) (s : State) : Host.Outcome State Fault Refusal :=
  done (s.putDoor d { s.door d with grace := none })

/-- CLOSE_IGNORE_WINDOW_END (R102): the window becomes absent. -/
def execCloseIgnoreWindowEnd (d : Nat) (s : State) : Host.Outcome State Fault Refusal :=
  done (s.putDoor d { s.door d with ignore := none })

/-- ALLOWANCE_TIMER_EXPIRY (R104): HELD_OPEN is set and DOOR_HELD_OPEN raised. -/
def execAllowanceTimerExpiry (d : Nat) (s : State) : Host.Outcome State Fault Refusal :=
  done
    (if (s.door d).allow.isSome then
      s.doorEvent d (fun _ _ => .timer) fun t =>
        (t.putDoor d { t.door d with allow := none, heldOpen := true }).raise .doorHeldOpen (.door d)
    else s)

/-- START_UP_HOLD_END (R109): both loops have completed four scans since start, and START_UP leaves the latch. -/
def execStartUpHoldEnd (s : State) : Host.Outcome State Fault Refusal :=
  done
    (if s.doors.latchStartUp then
      State.latchLosesStartUp { s with doors.scansA := 4, doors.scansB := 4 }
    else s)

end Sys2Proof.Machine
end

