-- ==== Sys2Proof/Machine/Vestibules.lean ====
section
/-! DEFINITION. The interlock pairs' commands (07): configuration, observation, quiet timers and pending waits. -/

namespace Sys2Proof.Machine

/-- The quiet state of a door as its causes and contact now stand (R113). -/
def Door.presentQuiet (x : Door) (dead : Nat) : Quiet := if x.isQuiet then quietStart dead else .notQuiet

/-- What every change of a pair's doors does first (R113): a pending request is cancelled and a breach ends, the PASS_RESULT
going before the end of the breach (log 44). -/
def State.clearPair (s : State) (q : Nat) : State := (s.emptySlot q .cancelledConfig).endBreach q

/-- A pair takes a configuration with other doors, or is configured from unconfigured (R113). -/
def State.bindPair (s : State) (q : Nat) (c : PairSetting) : State :=
  let s := s.clearPair q
  s.putPair q ⟨some c, (s.door c.doorX).presentQuiet c.dead, (s.door c.doorY).presentQuiet c.dead, none, false⟩

/-- A door may not be a member of pair `q` (R113): outside 0–31, not configured, public, or of another pair. -/
def State.unfitFor (s : State) (q d : Nat) : Bool :=
  s.noDoor d || (s.door d).cfg.publicDoor || (s.pairOf d).any (fun r => r != q)

def serveCfgPair (tag : Byte) (q : Nat) (setting : Option PairSetting) (s : State) : State :=
  let i := Instr.cfgPair tag q setting
  match s.cfgDoorRefusal with
  | some st => s.refuse i st
  | none =>
    if 7 < q then s.refuse i .noObject
    else
      match setting with
      | none =>
        if (s.pair q).cfg.isNone then s.accept i
        else ((s.clearPair q).putPair q (.fresh none)).accept i
      | some c =>
        if s.unfitFor q c.doorX || s.unfitFor q c.doorY || c.doorX == c.doorY then s.refuse i .badValue
        else if !(s.door c.doorX).causes.isEmpty && !(s.door c.doorY).causes.isEmpty then s.refuse i .wrongState
        else
          let new : PairSetting := ⟨c.doorX, c.doorY, clamp 0 10 c.dead, clamp 5 60 c.wait⟩
          let s :=
            if (s.pair q).cfg.any (fun o => o.doorX == c.doorX && o.doorY == c.doorY) then
              s.putPair q { s.pair q with cfg := some new }
            else s.bindPair q new
          s.acceptClamped i (outside 0 10 c.dead || outside 5 60 c.wait) [new.dead, new.wait]

/-- CFG_PAIR (R113). -/
def execCfgPair (tag : Byte) (q : Nat) (setting : Option PairSetting) (s : State) : Host.Outcome State Fault Refusal :=
  request (.cfgPair tag q setting) (serveCfgPair tag q setting) s

/-- One door of a GET_PAIR reply (R120). -/
def State.pairDoorView (s : State) (d : Nat) (q : Quiet) : PairDoorView :=
  let x := s.door d
  ⟨q == .settled,
    (match q with
     | .quiet c => some c.left
     | _ => none),
    x.causes, x.contact, x.cfg.egress⟩

def serveGetPair (tag : Byte) (q : Nat) (s : State) : State :=
  let i := Instr.getPair tag q
  match (s.pair q).cfg with
  | none => s.refuse i .noObject
  | some c =>
    let p := s.pair q
    s.reply i .ok (.pair
      ⟨c, s.pairDoorView c.doorX p.quietX, s.pairDoorView c.doorY p.quietY,
        p.slot.map fun r => (r.door, r.cause, r.wait.left), p.breach, s.doors.latchEvac, s.doors.latchStartUp⟩)

/-- GET_PAIR (R120). -/
def execGetPair (tag : Byte) (q : Nat) (s : State) : Host.Outcome State Fault Refusal :=
  request (.getPair tag q) (serveGetPair tag q) s

/-- The quiet timer of a paired door runs out (R114): the door is SETTLED, and a request of its partner is granted
(R116). -/
def State.settle (s : State) (d : Nat) : State :=
  match s.pairOf d with
  | none => s
  | some q =>
    match (s.pair q).cfg with
    | none => s
    | some c =>
      match (s.pair q).quietOf c d with
      | .quiet _ => (s.putPair q ((s.pair q).setQuiet c d .settled)).grantPartner d
      | _ => s

/-- QUIET_TIMER_EXPIRY (R114). -/
def execQuietTimerExpiry (d : Nat) (s : State) : Host.Outcome State Fault Refusal := done (s.settle d)

/-- PENDING_WAIT_EXPIRY (R116): the request in the pending slot is refused. -/
def execPendingWaitExpiry (q : Nat) (s : State) : Host.Outcome State Fault Refusal := done (s.emptySlot q .refused)

end Sys2Proof.Machine
end

