-- ==== Sys2Proof/Machine/CallQueue.lean ====
section
/-! DEFINITION. The call queue controller (09): admission, displacement, deferred presses, the channel arbiter, pre-emption,
and its commands. -/

namespace Sys2Proof.Machine

/-! ## Records and reports -/

def CallState.shown : CallState → CallShown
  | .waiting => .waiting
  | .offered _ _ => .offered
  | .connected _ _ _ => .connected
  | .held => .held

/-- CALL_STATE for a record as it stands (R143). -/
def State.reportCall (s : State) (r : Call) (cause : CallCause) : State :=
  s.report (.callState (some r.number) r.point r.cls r.state.shown r.state.channel r.admission r.unanswered r.escalated
    cause)

/-- CALL_STATE for a record that has left the queue (R143). -/
def State.reportRemoved (s : State) (r : Call) (cause : CallCause) : State :=
  s.report (.callState (some r.number) r.point r.cls .removed none r.admission r.unanswered r.escalated cause)

/-- The class of a CALL point as it stands. -/
def State.callClass (s : State) (p : Nat) : CallClass := (s.point p).cfg.cls.getD .help

/-- CALL_STATE for a deferred press of a point (R143). A deferred press keeps no unanswered offers and no escalated flag:
the report carries 0 and no for them, which R143 leaves open (log 39). -/
def State.reportPress (s : State) (p : Nat) (shown : CallShown) (time : Nat) (cause : CallCause) : State :=
  s.report (.callState none p (s.callClass p) shown none time 0 false cause)

/-- The CQC writes the indicator and channel of a CALL point from its call state (R131). -/
def State.writeCall (s : State) (p : Nat) : State := s.setWord p (s.callWord p)

def State.setDeferred (s : State) (p : Nat) (t : Option Nat) : State := s.putPoint p { s.point p with deferred := t }

def State.setQueue (s : State) (q : List Call) : State := { s with calls.queue := q }

/-- The record of a call number (R137). -/
def State.callNumbered (s : State) (n : Nat) : Option Call := s.calls.queue.find? fun r => r.number == n

/-- A record takes a changed form in its place. -/
def State.putCall (s : State) (r : Call) : State :=
  s.setQueue (s.calls.queue.map fun x => if x.number = r.number then r else x)

/-- A record's state changes: its point's word follows and the change is reported (R131, R143). -/
def State.changeCall (s : State) (r : Call) (cause : CallCause) : State :=
  ((s.putCall r).writeCall r.point).reportCall r cause

/-- A record takes its place by admission time, after records of the same time (R130). -/
def placeCall (r : Call) : List Call → List Call
  | [] => [r]
  | x :: xs => if x.admission ≤ r.admission then x :: placeCall r xs else r :: x :: xs

/-! ## The arbiter (R135, R136) -/

/-- A record is eligible (R135). -/
def State.eligible (s : State) (r : Call) : Bool :=
  (r.state == .waiting || r.state == .held) && (!s.evacuate || r.cls == .refuge)

/-- The record of earliest admission time, and of two with the same time the one placed earlier. -/
def earliest : List Call → Option Call
  | [] => none
  | x :: xs =>
    match earliest xs with
    | some y => if x.admission ≤ y.admission then some x else some y
    | none => some x

/-- The record the arbiter offers a channel to: REFUGE before HELP, then admission time, then place (R135). -/
def State.nextCall (s : State) : Option Call :=
  match earliest (s.calls.queue.filter fun r => s.eligible r && r.cls == .refuge) with
  | some r => some r
  | none => earliest (s.calls.queue.filter s.eligible)

/-- An offer of a free channel to the first eligible record, when there are both (R135, R136). -/
def State.offerOnce (s : State) : State :=
  match s.calls.freeChannel, s.nextCall with
  | some ch, some r => s.changeCall { r with state := .offered ch (.start 20) } .offered
  | _, _ => s

/-- The arbiter acts: each of the two channels that is free is offered (R135). -/
def State.arbitrate (s : State) : State := s.offerOnce.offerOnce

/-! ## Pre-emption (R140) -/

/-- The record of latest admission time, and of two with the same time the one placed later (R133, R140). -/
def latest : List Call → Option Call
  | [] => none
  | x :: xs =>
    match latest xs with
    | some y => if y.admission < x.admission then some x else some y
    | none => some x

/-- When a record last became CONNECTED. -/
def Call.since (r : Call) : Nat :=
  match r.state with
  | .connected _ t _ => t
  | _ => 0

/-- The record connected longest, and of two with the same connected time the one placed later (R140). -/
def longest : List Call → Option Call
  | [] => none
  | x :: xs =>
    match longest xs with
    | some y => if x.since < y.since then some x else some y
    | none => some x

def Call.isOffered (r : Call) : Bool := r.state.shown == .offered

def Call.isConnected (r : Call) : Bool := r.state.shown == .connected

/-- The HELP record that gives up its channel (R140). -/
def State.yielding (s : State) : Option Call :=
  match latest (s.calls.queue.filter fun r => r.cls == .help && r.isOffered) with
  | some r => some r
  | none => longest (s.calls.queue.filter fun r => r.cls == .help && r.isConnected)

/-- A HELP record gives up its channel: OFFERED returns to WAITING, CONNECTED becomes HELD (R140). -/
def State.yieldCall (s : State) (r : Call) : State :=
  s.changeCall { r with state := if r.isOffered then .waiting else .held } .preempted

/-- One pre-emption, and the arbiter's act on the channel it frees, when EVACUATE is active, a REFUGE record waits and no
channel is free (R140). -/
def State.preemptOnce (s : State) : State :=
  if s.evacuate && s.calls.freeChannel.isNone && s.calls.queue.any (fun r => r.cls == .refuge && r.state == .waiting) then
    match s.yielding with
    | some r => (s.yieldCall r).arbitrate
    | none => s
  else s

/-- What follows every event at the CQC: the arbiter acts, then pre-emption is applied, at most two HELP records holding
channels (R135, R140). -/
def State.settleCalls (s : State) : State := s.arbitrate.preemptOnce.preemptOnce

/-! ## Admission (R132 to R134) -/

/-- A press becomes a record with the next call number, in WAITING (R132, R130). -/
def State.admitCall (s : State) (p : Nat) (cls : CallClass) (time : Nat) : State :=
  let n := freeNumber (s.calls.queue.map (·.number)) 255 s.calls.next
  let r : Call := ⟨n, p, cls, time, .waiting, 0, false⟩
  ((State.setDeferred { s with calls := ⟨placeCall r s.calls.queue, nextNumber n⟩ } p none).writeCall p).reportCall r
    .admitted

/-- A press is kept in its point's record (R132). -/
def State.deferPress (s : State) (p : Nat) (time : Nat) : State :=
  ((s.setDeferred p (some time)).writeCall p).reportPress p .deferred time .deferred

/-- A record leaves the queue and its CALL_UNANSWERED condition ends (R133, R139), with its ALARM_ENTRY before the CALL_STATE
of the removal, which follows in `State.displace` and `State.finishCall` (log 52). -/
def State.removeCall (s : State) (r : Call) : State :=
  (s.setQueue (s.calls.queue.filter fun x => x.number != r.number)).endAlarm .callUnanswered (.point r.point)

/-- The record a REFUGE press displaces: HELP, WAITING, of latest admission time (R133). -/
def State.displaced (s : State) : Option Call :=
  latest (s.calls.queue.filter fun r => r.cls == .help && r.state == .waiting)

/-- A displaced record goes back to its point as a deferred press with its admission time (R133). The ALARM_ENTRY of a
CALL_UNANSWERED that ends goes before CALL_STATE DISPLACED (log 52). -/
def State.displace (s : State) (r : Call) : State :=
  (((s.removeCall r).setDeferred r.point (some r.admission)).writeCall r.point).reportRemoved r .displaced

/-- A press of a CALL point reaches the CQC (R132). -/
def State.callPress (s : State) (p : Nat) : State :=
  let cls := s.callClass p
  if (s.calls.ofPoint p).isSome || (s.point p).deferred.isSome then s
  else if s.effective p then s.deferPress p s.now
  else if s.calls.queue.length < 16 then (s.admitCall p cls s.now).settleCalls
  else
    match cls, s.displaced with
    | .refuge, some r => ((s.displace r).admitCall p cls s.now).settleCalls
    | _, _ => s.deferPress p s.now

/-- The press time of a point's deferred press. -/
def State.pressTime (s : State) (p : Nat) : Nat := (s.point p).deferred.getD 0

/-- A point takes its place by press time, after points of the same time. -/
def State.placePress (s : State) (p : Nat) : List Nat → List Nat
  | [] => [p]
  | x :: xs => if s.pressTime x ≤ s.pressTime p then x :: s.placePress p xs else p :: x :: xs

/-- The points of a class that hold a deferred press, by press time and then point number (R134). -/
def State.pressesOf (s : State) (cls : CallClass) : List Nat :=
  (pointNumbers.filter fun p => (s.point p).deferred.isSome && s.callClass p == cls).foldl
    (fun ps p => s.placePress p ps) []

/-- The points that hold a deferred press, in the order a run takes them (R134). -/
def State.deferredOrder (s : State) : List Nat := s.pressesOf .refuge ++ s.pressesOf .help

/-- A run of deferred admission of at most `fuel` presses (R134). -/
def State.admitDeferred : Nat → State → State
  | 0, s => s
  | fuel + 1, s =>
    if s.calls.queue.length < 16 then
      match s.deferredOrder.find? fun p => !s.effective p with
      | some p => State.admitDeferred fuel (s.admitCall p (s.callClass p) (s.pressTime p))
      | none => s
    else s

/-- Deferred admission runs, and then the arbiter acts (R134, R135). At most 16 presses find a place. -/
def State.runDeferred (s : State) : State := (State.admitDeferred 16 s).settleCalls

/-! ## Ends (R139) -/

/-- A call ends by END_CALL or by its limit (R139). The ALARM_ENTRY of a CALL_UNANSWERED that ends goes before CALL_STATE
ENDED or LIMIT (log 52). -/
def State.finishCall (s : State) (r : Call) (cause : CallCause) : State :=
  (((s.removeCall r).writeCall r.point).reportRemoved r cause).runDeferred

/-! ## Isolation, EVACUATE, reconfiguration (R141, R142) -/

/-- EVACUATE has changed (R141). -/
def State.callsSeeEvacuate (s : State) : State := s.settleCalls

/-- A CALL point leaves effective isolation (R142, R134). -/
def State.freeCall (s : State) (p : Nat) : State :=
  let s :=
    match s.calls.ofPoint p with
    | some r => if r.escalated && !r.isConnected then s.raise .callUnanswered (.point p) else s
    | none => s
  if (s.point p).deferred.isSome then s.runDeferred else s

/-- CFG_POINT makes a deferred press absent (R8, R142). -/
def State.losePress (s : State) (p : Nat) : State :=
  match (s.point p).deferred with
  | some t => (s.reportPress p .removed t .ended).setDeferred p none
  | none => s

/-! ## Commands -/

/-- A request on the record of a call number: NO_OBJECT when no record holds it (R137, R138, R139). -/
def State.onCall (s : State) (i : Instr) (n : Nat) (f : Call → State) : State :=
  match s.callNumbered n with
  | none => s.refuse i .noObject
  | some r => f r

/-- A served ANSWER_CALL (R137): CALL_STATE is reported before the ALARM_ENTRY of the CALL_UNANSWERED that ends (R137 gives
no order; log 37). -/
def serveAnswerCall (tag : Byte) (n : Nat) (s : State) : State :=
  let i := Instr.answerCall tag n
  s.onCall i n fun r =>
    match r.state with
    | .offered ch _ =>
      let r' := { r with state := .connected ch s.now (.start 900), unanswered := 0, escalated := false }
      ((s.changeCall r' .answered).endAlarm .callUnanswered (.point r.point)).accept i
    | _ => s.refuse i .wrongState

/-- ANSWER_CALL (R137). -/
def execAnswerCall (tag : Byte) (n : Nat) (s : State) : Host.Outcome State Fault Refusal :=
  request (.answerCall tag n) (serveAnswerCall tag n) s

def serveHoldCall (tag : Byte) (n : Nat) (s : State) : State :=
  let i := Instr.holdCall tag n
  s.onCall i n fun r =>
    match r.state with
    | .connected _ _ _ => ((s.changeCall { r with state := .held } .held).settleCalls).accept i
    | _ => s.refuse i .wrongState

/-- HOLD_CALL (R138). -/
def execHoldCall (tag : Byte) (n : Nat) (s : State) : Host.Outcome State Fault Refusal :=
  request (.holdCall tag n) (serveHoldCall tag n) s

def serveEndCall (tag : Byte) (n : Nat) (s : State) : State :=
  let i := Instr.endCall tag n
  s.onCall i n fun r => (s.finishCall r .ended).accept i

/-- END_CALL (R139). -/
def execEndCall (tag : Byte) (n : Nat) (s : State) : Host.Outcome State Fault Refusal :=
  request (.endCall tag n) (serveEndCall tag n) s

/-- The offer of a record runs out (R136). The ALARM_ENTRY of a CALL_UNANSWERED that is raised goes before CALL_STATE
OFFER_EXPIRED (log 52). -/
def State.expireOffer (s : State) (r : Call) : State :=
  let n := min 3 (r.unanswered + 1)
  let r' := { r with state := .waiting, unanswered := n, escalated := r.escalated || n == 3 }
  let s := (s.putCall r').writeCall r.point
  let s := if n = 3 ∧ !s.effective r.point then s.raise .callUnanswered (.point r.point) else s
  (s.reportCall r' .offerExpired).settleCalls

/-- OFFER_TIMER_EXPIRY (R136). -/
def execOfferTimerExpiry (n : Nat) (s : State) : Host.Outcome State Fault Refusal :=
  done
    (match s.callNumbered n with
     | some r => if r.isOffered then s.expireOffer r else s
     | none => s)

/-- LIMIT_TIMER_EXPIRY (R139): the call is ended as by END_CALL. -/
def execLimitTimerExpiry (n : Nat) (s : State) : Host.Outcome State Fault Refusal :=
  done
    (match s.callNumbered n with
     | some r => if r.isConnected then s.finishCall r .limit else s
     | none => s)

/-- One record of a GET_CALLS reply (R143). -/
def Call.view (r : Call) : CallView :=
  ⟨r.number, r.point, r.cls, r.admission, r.state.shown, r.state.channel,
    (match r.state with
     | .offered _ c => some c.left
     | _ => none),
    r.unanswered, r.escalated,
    (match r.state with
     | .connected _ t _ => some t
     | _ => none),
    (match r.state with
     | .connected _ _ c => some c.left
     | _ => none)⟩

def serveGetCalls (tag : Byte) (s : State) : State :=
  s.reply (.getCalls tag) .ok (.calls
    ⟨s.calls.queue.map Call.view, (s.calls.holderOf .one).map (·.number), (s.calls.holderOf .two).map (·.number),
      s.deferredOrder.map fun p => ⟨p, s.callClass p, s.pressTime p, s.effective p⟩, s.calls.next, s.evacuate⟩)

/-- GET_CALLS (R143). -/
def execGetCalls (tag : Byte) (s : State) : Host.Outcome State Fault Refusal :=
  request (.getCalls tag) (serveGetCalls tag) s

end Sys2Proof.Machine
end

