-- ==== Sys2Proof/Machine/Regimes.lean ====
section
/-! DEFINITION. The regime scheduler (05): mode changes, target modes, segments, the setting procedure, and its commands. -/

namespace Sys2Proof.Machine

/-! ## Mode and procedure (R77, R85) -/

/-- A group takes the record `x`. A change of its mode or procedure is reported as one GROUP_MODE and handed to the DC and
the LC; the other blocks read it when they need it (R77). The DOOR_STATE reports of the change follow GROUP_MODE and come
before the SET_RESULT that its callers send (log 43). -/
def State.changeGroup (s : State) (g : Nat) (x : Group) (cause : ModeCause) : State :=
  let old := s.group g
  let t := s.putGroup g x
  if old.mode = x.mode ∧ old.setting.isSome = x.setting.isSome then t
  else ((t.report (.groupMode g x.mode x.setting.isSome cause)).doorsSeeMode g).refreshLamps

/-- Set-wanted and the retry timer after a failure, by the current segment (R85). -/
def Group.decideRetry (x : Group) : Group :=
  match x.current with
  | some c =>
    if c.segment.target = .set then { x with setWanted := true, retry := some (.start 300) }
    else { x with setWanted := false, retry := none }
  | none => { x with setWanted := false, retry := none }

/-- Set-wanted becomes no and the retry timer stops (R78). -/
def Group.unwanted (x : Group) : Group := { x with setWanted := false, retry := none }

/-- A setting procedure fails with FIRE, DOOR_OPEN or EVACUATION (R85). -/
def State.failSetting (s : State) (g : Nat) (reason : FailReason) : State :=
  let x := ({ s.group g with setting := none }).decideRetry
  (s.changeGroup g x .setting).report (.setResult g (some reason) x.setWanted (leftOf x.retry))

/-- A setting procedure is started (R83): SETTING with the group's exit time, or a failure at once with FIRE. -/
def State.startSetting (s : State) (g : Nat) (cause : ModeCause) : State :=
  let x := s.group g
  if s.zonesNotNormal g = [] then
    s.changeGroup g { x with setting := some (.start x.cfg.exitTime), retry := none } cause
  else s.failSetting g (.fire (s.zonesNotNormal g))

/-- A target mode is applied to a group (R78). -/
def State.applyTarget (s : State) (g : Nat) (target : Mode) (cause : ModeCause) : State :=
  let x := s.group g
  match x.setting, target with
  | some _, .set => s
  | some _, m =>
    (s.changeGroup g { x.unwanted with mode := m, setting := none } cause).report
      (.setResult g (some .cancelled) false none)
  | none, .set => if x.mode = .set then s.putGroup g x.unwanted else s.startSetting g cause
  | none, m => s.changeGroup g { x.unwanted with mode := m } cause

/-! ## Segments (R79 to R81) -/

/-- A segment becomes current with full seconds (R79). -/
def Segment.begun (x : Segment) : Current := ⟨x, .start (x.minutes * 60)⟩

/-- SEGMENT for a group as it stands (R80). -/
def State.reportSegment (s : State) (g : Nat) (cause : SegmentCause) : State :=
  s.report (.segment g cause (s.group g).current (s.group g).staged)

/-- The staged segment is taken (R80, R81). -/
def State.takeStaged (s : State) (g : Nat) : State :=
  match (s.group g).staged with
  | some x =>
    ((s.putGroup g { s.group g with current := some x.begun, staged := none }).reportSegment g .taken).applyTarget g
      x.target .segment
  | none => s

/-- The current segment of a group expires (R80). -/
def State.expireSegment (s : State) (g : Nat) : State :=
  match (s.group g).staged, (s.group g).current with
  | some _, some _ => s.takeStaged g
  | none, some c =>
    if c.segment.repeats then
      ((s.putGroup g { s.group g with current := some c.segment.begun }).reportSegment g .repeated).applyTarget g
        c.segment.target .repeated
    else (s.putGroup g { (s.group g).unwanted with current := none }).reportSegment g .runOut
  | _, none => s

/-! ## Hand-offs from the FCC (R84, R87, R88) -/

/-- A zone has left NORMAL: its group's setting procedure fails (R84). -/
def State.groupSeesFire (s : State) (z : Nat) : State :=
  let g := (s.zone z).cfg.group
  if (s.group g).setting.isSome then s.failSetting g (.fire (s.zonesNotNormal g)) else s

/-- EVACUATE has changed: its beginning fails every procedure (R87), its end takes the staged segment of every group that
has no current one (R88). The groups go in ascending number (log 43). -/
def State.groupsSeeEvacuate (s : State) : State :=
  s.each (List.range 8) fun g t =>
    if s.evacuate then (if (t.group g).setting.isSome then t.failSetting g .evacuation else t)
    else if (t.group g).current.isNone then t.takeStaged g
    else t

/-! ## Commands -/

/-- SEGMENT_EXPIRY (R80): while EVACUATE is active no segment expires (R87). -/
def execSegmentExpiry (g : Nat) (s : State) : Host.Outcome State Fault Refusal :=
  done (if s.evacuate then s else s.expireSegment g)

/-- The exit time of a group in SETTING expires (R84). -/
def State.expireExitTime (s : State) (g : Nat) : State :=
  if s.openDoorsOf g = [] then
    (s.changeGroup g { (s.group g).unwanted with mode := .set, setting := none } .setting).report
      (.setResult g none false none)
  else s.failSetting g (.doorOpen (s.openDoorsOf g))

/-- EXIT_TIME_EXPIRY (R84). -/
def execExitTimeExpiry (g : Nat) (s : State) : Host.Outcome State Fault Refusal :=
  done (if (s.group g).setting.isSome then s.expireExitTime g else s)

/-- RETRY_TIMER_EXPIRY (R86): the timer becomes absent and SET is applied; while EVACUATE is active the timer is held. -/
def execRetryTimerExpiry (g : Nat) (s : State) : Host.Outcome State Fault Refusal :=
  done
    (if s.evacuate || (s.group g).retry.isNone then s
    else (s.putGroup g { s.group g with retry := none }).applyTarget g .set .retry)

/-- A served STAGE_SEGMENT (R81). With a group outside 0-7 and a target that is no mode at once the reply is NO_OBJECT: R81
names both refusals without an order (log 50). -/
def serveStageSegment (tag : Byte) (g : Nat) (target : Option Mode) (minutes : Nat) (repeats : Bool) (s : State) :
    State :=
  let i := Instr.stageSegment tag g target minutes repeats
  if 7 < g then s.refuse i .noObject
  else
    match target with
    | none => s.refuse i .badValue
    | some m =>
      let replaced := (s.group g).staged.isSome
      let taken := (s.group g).current.isNone && !s.evacuate
      let s := s.putGroup g { s.group g with staged := some ⟨m, clamp 1 1440 minutes, repeats⟩ }
      let s := if taken then s.takeStaged g else s
      s.reply i (clampStatus (outside 1 1440 minutes)) (.staged replaced taken (s.group g).current (s.group g).staged)

/-- STAGE_SEGMENT (R81). -/
def execStageSegment (tag : Byte) (g : Nat) (target : Option Mode) (minutes : Nat) (repeats : Bool) (s : State) :
    Host.Outcome State Fault Refusal :=
  request (.stageSegment tag g target minutes repeats) (serveStageSegment tag g target minutes repeats) s

def serveSetMode (tag : Byte) (g : Nat) (mode : Option Mode) (s : State) : State :=
  let i := Instr.setMode tag g mode
  if 7 < g then s.refuse i .noObject
  else
    match mode with
    | none => s.refuse i .badValue
    | some m =>
      if s.evacuate then s.refuse i .evacuating
      else if m = .set ∧ (s.group g).setting = none ∧ (s.group g).mode ≠ .set ∧ s.zonesNotNormal g ≠ [] then
        s.refuse i .wrongState
      else (s.applyTarget g m .host).accept i

/-- SET_MODE (R82). -/
def execSetMode (tag : Byte) (g : Nat) (mode : Option Mode) (s : State) : Host.Outcome State Fault Refusal :=
  request (.setMode tag g mode) (serveSetMode tag g mode) s

def serveCfgGroup (tag : Byte) (g exitTime : Nat) (powerOn : Option Mode) (s : State) : State :=
  let i := Instr.cfgGroup tag g exitTime powerOn
  match s.cfgRefusal with
  | some st => s.refuse i st
  | none =>
    if 7 < g then s.refuse i .noObject
    else
      match powerOn with
      | none => s.refuse i .badValue
      | some m =>
        (s.putGroup g { s.group g with cfg := ⟨clamp 10 180 exitTime, m⟩ }).acceptClamped i (outside 10 180 exitTime)
          [clamp 10 180 exitTime]

/-- CFG_GROUP (R76). -/
def execCfgGroup (tag : Byte) (g exitTime : Nat) (powerOn : Option Mode) (s : State) :
    Host.Outcome State Fault Refusal :=
  request (.cfgGroup tag g exitTime powerOn) (serveCfgGroup tag g exitTime powerOn) s

def serveGetGroup (tag : Byte) (g : Nat) (s : State) : State :=
  let i := Instr.getGroup tag g
  if 7 < g then s.refuse i .noObject
  else
    let x := s.group g
    s.reply i .ok (.group
      ⟨x.mode, leftOf x.setting, x.cfg, x.setWanted, leftOf x.retry, x.current.map fun c => (c.segment, c.left.left),
        x.staged, (s.zonesOf g).map fun z => (z, (s.zone z).fire), s.evacuate⟩)

/-- GET_GROUP (R89). -/
def execGetGroup (tag : Byte) (g : Nat) (s : State) : Host.Outcome State Fault Refusal :=
  request (.getGroup tag g) (serveGetGroup tag g) s

end Sys2Proof.Machine
end

