-- ==== Sys2Proof/Machine/FireControl.lean ====
section
/-! DEFINITION. The fire condition controller (03): zone fire states, EVACUATE and its hand-offs, manual points, the line
filters, and its commands but FIRE_RESET. -/

namespace Sys2Proof.Machine

/-! ## EVACUATE and the silenced flag (R54, R56) -/

/-- EVACUATION as it now stands (R54). -/
def State.reportEvacuation (s : State) : State :=
  s.report (.evacuation s.evacuate s.anyConfirmed s.fire.evacIn.level s.fire.silenced)

/-- A change of EVACUATE is handed to the DC, RS, GM, CQC, RSC and LC (R54). -/
def State.handEvacuate (s : State) : State :=
  ((s.doorsSeeEvacuate.groupsSeeEvacuate.guardSeesEvacuate.callsSeeEvacuate).reroute .zone).lampsSeeEvacuate

/-- EVACUATE is recomputed after an event that found it `was` and the silenced flag `flag` (R54, R56): the flag clears when
EVACUATE has ended, a change of either is reported once, and a change of EVACUATE is handed on. -/
def State.recomputeEvacuate (s : State) (was flag : Bool) : State :=
  let s : State := if was && !s.evacuate then { s with fire.silenced := false } else s
  let s := if was != s.evacuate || flag != s.fire.silenced then s.reportEvacuation else s
  if was != s.evacuate then s.handEvacuate else s

/-! ## Zone fire states (R42, R43) -/

/-- ZONE_FIRE for a zone as it stands (R43). -/
def State.reportZone (s : State) (z : Nat) (cause : FireCause) : State :=
  s.report (.zoneFire z (s.zone z).fire cause (s.zone z).first (s.zone z).count)

/-- A change of a zone's fire state is handed to the DC, RS and RSC; the other blocks read it (R43). -/
def State.handZone (s : State) (z : Nat) (leaves : Bool) : State :=
  let s := s.doorsSeeZone z
  let s := if leaves then s.groupSeesFire z else s
  s.reroute .zone

/-- A zone takes the record `x`, of another fire state than it held (R43): entry to CONFIRMED clears the silenced flag, the
change is reported and handed on, and EVACUATE is recomputed. -/
def State.changeZone (s : State) (z : Nat) (x : Zone) (cause : FireCause) : State :=
  let was := s.evacuate
  let flag := s.fire.silenced
  let leaves := (s.zone z).fire == .normal
  let s := s.putZone z x
  let s : State := if x.fire = .confirmed then { s with fire.silenced := false } else s
  (((s.reportZone z cause).handZone z leaves)).recomputeEvacuate was flag

/-- The zone is CONFIRMED (R43): its timer stops. -/
def Zone.confirmed (x : Zone) : Zone := { x with fire := .confirmed, timer := none }

/-- Investigation applies to a zone (R42). -/
def State.investigates (s : State) (z : Nat) : Bool := (s.zone z).cfg.investigation && s.zoneMode z != .set

/-- A detector alarm reaches the FCC (R42). -/
def State.detectorAlarm (s : State) (p : Nat) : State :=
  let z := (s.point p).cfg.zone
  let x := { s.zone z with count := (s.zone z).count + 1 }
  match x.fire with
  | .confirmed => s.putZone z x
  | .first | .investigate => s.changeZone z x.confirmed .secondDetector
  | .normal =>
    let x := { x with first := some p }
    if s.investigates z then s.changeZone z { x with fire := .first, timer := some (.accept (.start 30)) } .detector
    else if x.cfg.coincidence then s.changeZone z { x with fire := .first } .detector
    else s.changeZone z x.confirmed .detector

/-! ## Manual call points (R44, R45) -/

/-- A number enters a set kept as an ascending list. -/
def enter (n : Nat) : List Nat → List Nat
  | [] => [n]
  | x :: xs => if x < n then x :: enter n xs else if x = n then x :: xs else n :: x :: xs

/-- A good reply from a MANUAL point (R44). The MANUAL_ALARM entry comes before ZONE_FIRE (log 45). -/
def State.manualReply (s : State) (p : Nat) (operated : Bool) : State :=
  let z := (s.point p).cfg.zone
  let x := s.zone z
  if s.effective p || !operated || x.latched.contains p then s
  else
    let x := { x with latched := enter p x.latched }
    let s := (((s.putZone z x).setWord p (.alarm true))).raise .manualAlarm (.point p)
    if x.fire = .confirmed then s
    else s.changeZone z { x.confirmed with first := if x.fire = .normal then some p else x.first } .manual

/-! ## Zone timers and requests (R46 to R48) -/

/-- A zone timer expires and confirms its zone (R47). -/
def State.expireZone (s : State) (z : Nat) : State := s.changeZone z (s.zone z).confirmed .timer

/-- ACCEPT_TIMER_EXPIRY (R47). -/
def execAcceptTimerExpiry (z : Nat) (s : State) : Host.Outcome State Fault Refusal :=
  done
    (match (s.zone z).timer with
     | some (.accept _) => s.expireZone z
     | _ => s)

/-- INVESTIGATION_TIMER_EXPIRY (R47). -/
def execInvestigationTimerExpiry (z : Nat) (s : State) : Host.Outcome State Fault Refusal :=
  done
    (match (s.zone z).timer with
     | some (.investigation _) => s.expireZone z
     | _ => s)

def serveAcceptFire (tag : Byte) (z : Nat) (s : State) : State :=
  let i := Instr.acceptFire tag z
  if 47 < z then s.refuse i .noObject
  else
    match (s.zone z).fire, (s.zone z).timer with
    | .first, some (.accept _) =>
      (s.changeZone z { s.zone z with fire := .investigate, timer := some (.investigation (.start 180)) } .accept).accept i
    | _, _ => s.refuse i .wrongState

/-- ACCEPT_FIRE (R46). -/
def execAcceptFire (tag : Byte) (z : Nat) (s : State) : Host.Outcome State Fault Refusal :=
  request (.acceptFire tag z) (serveAcceptFire tag z) s

def serveConfirmFire (tag : Byte) (z : Nat) (s : State) : State :=
  let i := Instr.confirmFire tag z
  if 47 < z then s.refuse i .noObject
  else if (s.zone z).fire = .normal ∨ (s.zone z).fire = .confirmed then s.refuse i .wrongState
  else (s.changeZone z (s.zone z).confirmed .host).accept i

/-- CONFIRM_FIRE (R48). -/
def execConfirmFire (tag : Byte) (z : Nat) (s : State) : Host.Outcome State Fault Refusal :=
  request (.confirmFire tag z) (serveConfirmFire tag z) s

/-! ## Sounders (R57, R58) -/

/-- The silenced flag becomes `b`, reported when it changes (R56). -/
def State.setSilenced (s : State) (b : Bool) : State :=
  if s.fire.silenced = b then s else State.reportEvacuation { s with fire.silenced := b }

def serveSilence (tag : Byte) (s : State) : State :=
  let i := Instr.silence tag
  if !s.evacuate then s.refuse i .wrongState else (s.setSilenced true).accept i

/-- SILENCE (R57). -/
def execSilence (tag : Byte) (s : State) : Host.Outcome State Fault Refusal :=
  request (.silence tag) (serveSilence tag) s

def serveResound (tag : Byte) (s : State) : State := (s.setSilenced false).accept (.resound tag)

/-- RESOUND (R58). -/
def execResound (tag : Byte) (s : State) : Host.Outcome State Fault Refusal :=
  request (.resound tag) (serveResound tag) s

/-! ## Line inputs (R52, R53) -/

/-- The filtered level of EVAC_IN becomes `active` (R53). -/
def State.takeEvacIn (s : State) (active : Bool) : State :=
  let was := s.evacuate
  let s : State := { s with fire.evacIn := ⟨active, 0⟩ }
  let s := if active then s.raise .evacInput .none else s
  s.recomputeEvacuate was s.fire.silenced

/-- The filtered level of MAINS_OK becomes `present` (R53, R158). -/
def State.takeMainsOk (s : State) (present : Bool) : State :=
  State.lampsSeeMains { s with fire.mainsOk := ⟨present, 0⟩ }

/-- EVAC_IN_CHANGE (R53): the filter takes a new level; a level that is not new changes nothing. -/
def execEvacInChange (active : Bool) (s : State) : Host.Outcome State Fault Refusal :=
  done (if s.fire.evacIn.level = active then s else s.takeEvacIn active)

/-- MAINS_OK_CHANGE (R53, R158): the filter takes a new level; a level that is not new changes nothing. -/
def execMainsOkChange (present : Bool) (s : State) : Host.Outcome State Fault Refusal :=
  done (if s.fire.mainsOk.level = present then s else s.takeMainsOk present)

/-- One sample of EVAC_IN (R52). -/
def State.sampleEvacIn (s : State) (level : Bool) : State :=
  let f := s.fire.evacIn
  if level = f.level then { s with fire.evacIn := { f with count := 0 } }
  else if f.count + 1 < 3 then { s with fire.evacIn := { f with count := f.count + 1 } }
  else s.takeEvacIn level

/-- One sample of MAINS_OK (R52). -/
def State.sampleMainsOk (s : State) (level : Bool) : State :=
  let f := s.fire.mainsOk
  if level = f.level then { s with fire.mainsOk := { f with count := 0 } }
  else if f.count + 1 < 3 then { s with fire.mainsOk := { f with count := f.count + 1 } }
  else s.takeMainsOk level

/-- LINE_INPUT_SAMPLE (R52): the two inputs are sampled, EVAC_IN first (log 45). -/
def execLineInputSample (evacIn mainsOk : Bool) (s : State) : Host.Outcome State Fault Refusal :=
  done ((s.sampleEvacIn evacIn).sampleMainsOk mainsOk)

/-! ## Configuring and observing zones (R41, R62) -/

/-- The procedure of a group is SETTING. -/
def State.isSetting (s : State) (g : Nat) : Bool := (s.group g).setting.isSome

/-- The doors of a zone, in ascending number (log 43), and its lamps see a change of the zone's mode (R41, R77). -/
def State.zoneSeesMode (s : State) (z : Nat) : State :=
  (s.each (s.configuredDoors.filter fun d => s.doorZone d == z) fun d t =>
    t.doorEvent d (causeOrHolder .schedule) fun u => u.placeDoor d).refreshLamps

def serveCfgZone (tag : Byte) (z : Nat) (c : ZoneSetting) (s : State) : State :=
  let i := Instr.cfgZone tag z c
  match s.cfgRefusal with
  | some st => s.refuse i st
  | none =>
    if 47 < z then s.refuse i .noObject
    else if 7 < c.group || 7 < c.day || 7 < c.night then s.refuse i .badValue
    else
      let old := (s.zone z).cfg
      if (s.zone z).fire ≠ .normal ∧
          (old.group ≠ c.group ∨ old.coincidence ≠ c.coincidence ∨ old.investigation ≠ c.investigation) then
        s.refuse i .wrongState
      else if old.group ≠ c.group ∧ (s.isSetting old.group || s.isSetting c.group) then s.refuse i .wrongState
      else
        let t := s.putZone z { s.zone z with cfg := c }
        (if s.zoneMode z = t.zoneMode z then t else t.zoneSeesMode z).accept i

/-- CFG_ZONE (R41). -/
def execCfgZone (tag : Byte) (z : Nat) (c : ZoneSetting) (s : State) : Host.Outcome State Fault Refusal :=
  request (.cfgZone tag z c) (serveCfgZone tag z c) s

/-- A zone timer as a reply shows it: whether it is INVESTIGATION, and its seconds remaining. -/
def ZoneTimer.view : ZoneTimer → Bool × Nat
  | .accept c => (false, c.left)
  | .investigation c => (true, c.left)

def serveGetZone (tag : Byte) (z : Nat) (s : State) : State :=
  let i := Instr.getZone tag z
  if 47 < z then s.refuse i .noObject
  else
    let x := s.zone z
    s.reply i .ok (.zone
      { cfg := x.cfg, mode := s.zoneMode z, isolation := x.isolation.view, fire := x.fire, count := x.count,
        first := x.first, latched := x.latched, timer := x.timer.map ZoneTimer.view, evacIn := s.fire.evacIn.level,
        mainsOk := s.fire.mainsOk.level, evacuate := s.evacuate, silenced := s.fire.silenced,
        sounderOut := s.sounderOut, alertOut := s.alertOut, evacOut := s.evacOut })

/-- GET_ZONE (R62). -/
def execGetZone (tag : Byte) (z : Nat) (s : State) : Host.Outcome State Fault Refusal :=
  request (.getZone tag z) (serveGetZone tag z) s

end Sys2Proof.Machine
end

