-- ==== Sys2Proof/Machine/Detection.lean ====
section
/-! DEFINITION. The detection unit (02): the sample's stages, breaks of the stream, profiles, and its commands. -/

namespace Sys2Proof.Machine

/-! ## The stages of a sample (R21 to R33) -/

/-- Stage 1 (R22): the newest reading first, at most three kept. -/
def enterReading (r : Nat) (history : List Nat) : List Nat := (r :: history).take 3

/-- The filtered value of a history (R22): the median of three, the lower of two, or the single reading. -/
def filtered : List Nat → Nat
  | [a] => a
  | [a, b] => min a b
  | [a, b, c] => max (min a b) (min (max a b) c)
  | _ => 0

/-- The reference at a chance to step (R23): one sixteenth towards f × 16 in QUIET, when they differ by 128 or less. -/
def stepRef (st : DetState) (f ref : Nat) : Nat :=
  if st = .quiet ∧ f * 16 ≤ ref + 128 ∧ ref ≤ f * 16 + 128 then
    if ref < f * 16 then min 1152 (ref + 1) else if f * 16 < ref then max 256 (ref - 1) else ref
  else ref

/-- The reference a new record sets from its first filtered value (R23). -/
def setRef (f : Nat) : Nat := clamp 256 1152 (f * 16)

/-- The dirty flag after a reference of `ref` (R24). -/
def dirtyAfter (dirty : Bool) (ref : Nat) : Bool := if 1152 ≤ ref then true else if ref ≤ 1088 then false else dirty

/-- The chance to step, at a drift counter that would reach 120 (R23, R24). -/
def Detector.driftStep (d : Detector) (f ref : Nat) : Detector :=
  let ref := stepRef d.state f ref
  { d with ref := some ref, drift := 0, dirty := dirtyAfter d.dirty ref }

/-- Stage 2 (R23, R24), for a SMOKE detector. -/
def Detector.stage2 (d : Detector) (f : Nat) : Detector :=
  let ref := d.ref.getD (setRef f)
  if d.drift + 1 < 120 then { d with ref := some ref, drift := d.drift + 1, dirty := dirtyAfter d.dirty ref }
  else d.driftStep f ref

/-- Stage 3 (R25), for a SMOKE detector: f less the whole counts of the reference plus 32, within 0 to 255. -/
def compensate (f ref : Nat) : Nat := min 255 (f + 32 - ref / 16)

/-- The capture of stage 4 (R26), for a HEAT detector. -/
def Detector.stage4 (d : Detector) (c : Nat) : Detector :=
  if d.window + 1 < 60 then { d with window := d.window + 1 } else { d with window := 0, w := some c }

/-- The alarm condition (R31): `w` is the window value as it stood before the sample. -/
def alarmCondition (kind : Kind) (v : ProfileValues) (c : Nat) (w : Option Nat) : Bool :=
  match kind with
  | .smoke => v.a ≤ c
  | _ => v.h ≤ c || (0 < v.r && w.any fun w => w + v.r ≤ c)

/-- The state and confirmation count a sample moves a detector to (R32, R33). -/
def moveState (kind : Kind) (v : ProfileValues) (st : DetState) (k c : Nat) (met : Bool) : DetState × Nat :=
  let first : DetState × Nat := if v.k ≤ 1 then (.alarm, 1) else (.confirming, 1)
  let level := kind == .smoke && v.p ≤ c
  match st with
  | .alarm => (.alarm, k)
  | .confirming =>
    if met then (if v.k ≤ k + 1 then (.alarm, k + 1) else (.confirming, k + 1))
    else if level then (.preAlarm, 0)
    else (.quiet, 0)
  | .quiet => if met then first else if level then (.preAlarm, 0) else (.quiet, 0)
  | .preAlarm => if met then first else if c < v.p - 4 then (.quiet, 0) else (.preAlarm, 0)

/-- A sample of raw reading `r` (R21): `zoneIndex` is the profile the zone now names, `working` the working copies. -/
def Detector.sample (d : Detector) (kind : Kind) (r zoneIndex : Nat) (working : Nat → ProfileValues) : Detector :=
  let history := enterReading r d.history
  let f := filtered history
  let d1 : Detector := { d with history := history, lastF := some f, dirtyDue := false }
  let d2 := if kind = .smoke then d1.stage2 f else d1
  let c := if kind = .smoke then compensate f (d2.ref.getD 0) else f
  let d4 := if kind = .smoke then d2 else d2.stage4 c
  let index := if d.state = .quiet then zoneIndex else d.profile
  let v := working index
  let m := moveState kind v d.state d.k c (alarmCondition kind v c d.w)
  { d4 with lastC := some c, profile := index, state := m.1, k := m.2 }

/-! ## Effects of a sample (R24, R32, R33) -/

/-- A detector's dirty flag has gone from `was` to `is` (R24). -/
def State.seeDirty (s : State) (p : Nat) (was is : Bool) : State :=
  if !was && is then s.raise .detectorDirty (.point p)
  else if was && !is then s.endAlarm .detectorDirty (.point p)
  else s

/-- DETECTOR_STATE for a detector as it stands (R32). -/
def State.reportDetector (s : State) (p : Nat) (d : Detector) : State :=
  s.report (.detectorState p d.state (d.lastC.getD 0) d.profile)

/-- A detector's state has gone from `old` to that of `d` (R32, R33). An entry to ALARM goes DETECTOR_STATE, DETECTOR_ALARM,
then the hand-off to the FCC (log 45). -/
def State.seeDetState (s : State) (p : Nat) (old : DetState) (d : Detector) : State :=
  if old = d.state then s
  else
    match d.state with
    | .preAlarm => s.reportDetector p d
    | .alarm =>
      ((((s.setWord p (.alarm true)).reportDetector p d).raise .detectorAlarm (.point p))).detectorAlarm p
    | _ => s

/-- A good reply from a SMOKE or HEAT point (R21): a sample, unless the point is under effective isolation. A change of dirty
comes before the change of state (log 45). -/
def State.detectorReply (s : State) (p r : Nat) : State :=
  match s.detector p with
  | none => s
  | some d =>
    if s.effective p then s
    else
      let n := d.sample (s.point p).cfg.kind r (s.zoneProfile (s.point p).cfg.zone) fun i => (s.profile i).working
      let s := if d.dirtyDue && d.dirty then s.raise .detectorDirty (.point p) else s
      ((s.putDetector p (some n)).seeDirty p d.dirty n.dirty).seeDetState p d.state n

/-! ## Breaks of the stream (R34, R35) -/

/-- The stream of samples breaks, and a run ends (R34). -/
def Detector.broken (d : Detector) : Detector :=
  let run := d.state == .preAlarm || d.state == .confirming
  { d with
    history := [], drift := 0, window := 0, w := none,
    state := if run then .quiet else d.state, k := if run then 0 else d.k }

/-- The health of a detector point becomes MISSING or WRONG_KIND (R34). -/
def State.breakStream (s : State) (p : Nat) : State := s.putDetector p ((s.detector p).map Detector.broken)

/-- A detector point comes under effective isolation (R35). -/
def State.isolateDetector (s : State) (p : Nat) : State :=
  s.putDetector p ((s.detector p).map fun d => { d.broken with dirtyDue := false })

/-- A detector point leaves effective isolation (R24, R35): DETECTOR_DIRTY is due at its next sample when dirty is yes. -/
def State.freeDetector (s : State) (p : Nat) : State :=
  s.putDetector p ((s.detector p).map fun d => { d with dirtyDue := d.dirty })

/-! ## Profiles (R28, R29) -/

/-- The detector holds a transfer of profile `n` back (R29). -/
def Detector.holdsBack (n : Nat) (d : Detector) : Bool :=
  d.profile == n && (d.state == .preAlarm || d.state == .confirming)

/-- No detector holds a transfer of profile `n` back. -/
def State.mayTransfer (s : State) (n : Nat) : Bool :=
  (s.profile n).flag && !s.detection.detectors.rows.any fun d => d.any (Detector.holdsBack n)

/-- The pending copy of a profile becomes its working copy (R29). -/
def State.transfer (s : State) (n : Nat) : State :=
  (s.putProfile n { s.profile n with working := (s.profile n).pending, flag := false }).report (.profileApplied n)

/-- An end of scan reaches the DU: every pending profile is tested (R29), in ascending profile number, so that several that
transfer at one end of scan report PROFILE_APPLIED in that order (the spec gives none; log 37). -/
def State.testProfiles (s : State) : State := s.each (List.range 8) fun n t => if t.mayTransfer n then t.transfer n else t

def serveCfgProfile (tag : Byte) (n : Nat) (v : ProfileValues) (s : State) : State :=
  let i := Instr.cfgProfile tag n v
  match s.cfgRefusal with
  | some st => s.refuse i st
  | none =>
    if 7 < n then s.refuse i .noObject
    else
      let w := profileInRange v
      (s.putProfile n { s.profile n with pending := w, flag := true }).reply i (clampStatus (w != v)) (.profile w)

/-- CFG_PROFILE (R28). -/
def execCfgProfile (tag : Byte) (n : Nat) (v : ProfileValues) (s : State) : Host.Outcome State Fault Refusal :=
  request (.cfgProfile tag n v) (serveCfgProfile tag n v) s

/-! ## The two counted events inside a sample (R23, R26) -/

/-- DRIFT_CHANCE (R23): the drift counter of a SMOKE detector would reach 120, and the reference has its chance to step
towards the last filtered value. A counter below 119 changes nothing. -/
def execDriftChance (p : Nat) (s : State) : Host.Outcome State Fault Refusal :=
  done
    (match s.detector p with
     | some d =>
       match d.lastF, d.ref with
       | some f, some ref =>
         if d.drift = 119 then
           (s.putDetector p (some (d.driftStep f ref))).seeDirty p d.dirty (d.driftStep f ref).dirty
         else s
       | _, _ => s
     | none => s)

/-- HEAT_WINDOW_CAPTURE (R26): the window counter of a HEAT detector would reach 60, and `w` takes the last compensated
value. A counter below 59 changes nothing. -/
def execHeatWindowCapture (p : Nat) (s : State) : Host.Outcome State Fault Refusal :=
  done
    (match s.detector p with
     | some d =>
       match d.lastC with
       | some c => if d.window = 59 then s.putDetector p (some { d with window := 0, w := some c }) else s
       | none => s
     | none => s)

end Sys2Proof.Machine
end

