-- ==== Sys2Proof/Machine/AlarmList.lean ====
section
/-! DEFINITION. FIRE_RESET (03) and the alarm list's commands (04). -/

namespace Sys2Proof.Machine

/-! ## FIRE_RESET (R36, R59, R60) -/

/-- A zone after the fire reset (R60, steps 1 and 2). -/
def Zone.reset (x : Zone) : Zone :=
  if x.fire = .normal then { x with latched := [] }
  else { x with fire := .normal, count := 0, first := none, timer := none, latched := [] }

/-- A detector after the fire reset (R36). -/
def Detector.reset (d : Detector) : Detector := if d.state = .quiet then d else { d with state := .quiet, k := 0 }

/-- The zones that are not NORMAL, ascending. -/
def State.zonesUp (s : State) : List Nat := (List.range 48).filter fun z => (s.zone z).fire != .normal

/-- The points whose alarm indicator the reset writes off (R60, R36): latched MANUAL points and detectors in ALARM. -/
def State.litPoints (s : State) : List Nat :=
  s.fire.zones.rows.flatMap (·.latched) ++ pointNumbers.filter fun p => (s.detector p).any fun d => d.state == .alarm

/-- Zones, manual points and detectors return to rest, and FIRE entries leave the list (R60, steps 1 to 5; R36, R68). -/
def State.restFire (s : State) : State :=
  let lit := s.litPoints
  let s : State := { s with
    fire.zones := s.fire.zones.map fun _ x => x.reset
    fire.silenced := false
    detection.detectors := s.detection.detectors.map fun _ d => d.map Detector.reset
    alarms.entries := s.alarms.entries.filter fun e => !e.isFire }
  s.each lit fun p t => t.setWord p (.alarm false)

/-- A taken FIRE_RESET (R60). -/
def State.fireReset (s : State) : State :=
  let was := s.evacuate
  let flag := s.fire.silenced
  let up := s.zonesUp
  let s := s.restFire
  let s := s.each up fun z t => (t.reportZone z .reset).handZone z false
  let s := s.recomputeEvacuate was flag
  if s.fire.evacIn.level then s.raise .evacInput .none else s

def serveFireReset (tag : Byte) (s : State) : State :=
  let i := Instr.fireReset tag
  if s.sounderOut then s.refuse i .sounding
  else if s.zonesUp = [] ∧ s.fire.evacIn.level = false ∧ s.alarms.fireCount = 0 then s.refuse i .wrongState
  else s.fireReset.accept i

/-- FIRE_RESET (R59, R60). -/
def execFireReset (tag : Byte) (s : State) : Host.Outcome State Fault Refusal :=
  request (.fireReset tag) (serveFireReset tag) s

/-! ## Acceptance (R69, R70) -/

/-- An entry that `sel` names is accepted, and leaves the list if it is CLEARED (R69, R70). -/
def Entry.acceptIf (sel : Entry → Bool) (e : Entry) : Option Entry :=
  if sel e && !e.accepted then (if e.active then some { e with accepted := true } else none) else some e

/-- The entries that `sel` names are accepted (R69). -/
def State.acceptEntries (s : State) (i : Instr) (sel : Entry → Bool) : State :=
  let es := s.alarms.entries
  State.reply { s with alarms.entries := es.filterMap (Entry.acceptIf sel) } i .ok
    (.accepted (es.countP fun e => sel e && !e.accepted) (es.countP fun e => sel e && !e.accepted && !e.active))

def serveAcceptAlarm (tag : Byte) (target : AcceptTarget) (s : State) : State :=
  let i := Instr.acceptAlarm tag target
  match target with
  | .entry (some k) o =>
    if (s.alarms.find k o).isSome then s.acceptEntries i (Entry.names k o)
    else s.refuse i (if s.sortFits k o then .noObject else .badValue)
  | .entry none _ => s.refuse i .badValue
  | .cls (some c) => s.acceptEntries i fun e => kindClass e.kind == c
  | .cls none => s.refuse i .badValue

/-- ACCEPT_ALARM (R69). An entry the list holds is accepted whatever its object has since become: its point was of the
sort R64 names when the entry was raised (log 36). -/
def execAcceptAlarm (tag : Byte) (target : AcceptTarget) (s : State) : Host.Outcome State Fault Refusal :=
  request (.acceptAlarm tag target) (serveAcceptAlarm tag target) s

/-! ## Observing (R73) -/

/-- The entries of a page with their positions (R73). -/
def Alarms.page (a : Alarms) (n : Nat) : List (Nat × Entry) :=
  mapFrom (fun k e => (k, e)) (8 * n) ((a.entries.drop (8 * n)).take 8)

def serveGetAlarms (tag : Byte) (page : Nat) (s : State) : State :=
  let i := Instr.getAlarms tag page
  if 7 < page then s.refuse i .badValue
  else
    let a := s.alarms
    State.reply { s with alarms := { a with markFire := false, markSecurity := false, markFault := false } } i .ok
      (.alarms ⟨a.fireCount, a.otherCount, s.faultOut, s.guardOut, a.markFire, a.markSecurity, a.markFault, a.page page⟩)

/-- GET_ALARMS (R73). -/
def execGetAlarms (tag : Byte) (page : Nat) (s : State) : Host.Outcome State Fault Refusal :=
  request (.getAlarms tag page) (serveGetAlarms tag page) s

end Sys2Proof.Machine
end

