-- ==== Sys2Proof/Machine/Points.lean ====
section
/-! DEFINITION. The field loop scanners (01): scans and exchanges, health, delivery, isolation of points and zones, and their
commands. -/

namespace Sys2Proof.Machine

/-! ## Scanners (R1, R2, R3) -/

def State.scanner (s : State) (l : LoopId) : Scanner :=
  match l with
  | .a => s.loops.scanA
  | .b => s.loops.scanB

def State.putScanner (s : State) (l : LoopId) (x : Scanner) : State :=
  match l with
  | .a => { s with loops.scanA := x }
  | .b => { s with loops.scanB := x }

/-- The first configured point of a loop after point `q`, in ascending order of address (R1). -/
def State.nextPoint (s : State) (l : LoopId) (q : Nat) : Option Nat :=
  pointNumbers.find? fun p => loopOf p == l && q < p && (s.point p).cfg.configured

/-- An end of scan is announced to the DU and to the DC (R2), in this order (log 45). -/
def State.scanEnd (s : State) (l : LoopId) : State := s.testProfiles.doorsSeeScanEnd l

/-- The scanner moves on from point `q`: it opens the next exchange with the output word as it stands, or the scan ends
(R1, R2, R3). -/
def State.advance (s : State) (l : LoopId) (q : Nat) : State :=
  match s.nextPoint l q with
  | some p => s.putScanner l ⟨s.nextPoint l p, some ⟨p, (s.point p).word⟩⟩
  | none => (s.putScanner l ⟨none, none⟩).scanEnd l

/-- The scan position of a loop after a change of configuration (R1): a point the scanner has not yet passed joins the scan
in progress or leaves it. -/
def State.reposition (s : State) (l : LoopId) : State :=
  let x := s.scanner l
  match x.exchange with
  | some e => s.putScanner l { x with position := s.nextPoint l e.point }
  | none => if x.position.isSome then s.putScanner l { x with position := s.nextPoint l 0 } else s

/-- A scan of a loop starts (R1, R2): the next is due 0.5 s later, the RSC hears of it, and the first exchange then opens
(log 46). -/
def State.startScan (s : State) (l : LoopId) : State :=
  let s : State :=
    match l with
    | .a => { s with clock.scanA := Config.ticksPerScan }
    | .b => { s with clock.scanB := Config.ticksPerScan }
  (s.signsSeeScanStart l).advance l 0

/-- SCAN_START (R1). A scan whose exchanges have not ended goes on, and nothing starts. -/
def execScanStart (l : LoopId) (s : State) : Host.Outcome State Fault Refusal :=
  done (if (s.scanner l).exchange.isSome then s else s.startScan l)

/-! ## Health (R4, R34, R160) -/

/-- The block that owns the kind of a point hears that its health has become MISSING or WRONG_KIND (R5). -/
def State.ownerLoses (s : State) (p : Nat) : State :=
  match (s.point p).cfg.kind with
  | .smoke | .heat => s.breakStream p
  | .lamp => s.lampLost p
  | .manual | .presence | .door | .call | .sign => s

/-- The fault entry a health stands for (R64). -/
def healthFault : Health → Option AlarmKind
  | .missing => some .pointMissing
  | .wrongKind => some .wrongKind
  | .unknown | .normal => none

/-- The fault of the point's health is raised (R64, R14: held back under effective isolation). -/
def State.raiseHealth (s : State) (p : Nat) : State :=
  match healthFault (s.point p).health with
  | some k => if s.effective p then s else s.raise k (.point p)
  | none => s

/-- The fault of a health the point has left ends (R64). -/
def State.endHealth (s : State) (p : Nat) (old : Health) : State :=
  match healthFault old with
  | some k => s.endAlarm k (.point p)
  | none => s

/-- The health of a point becomes `h` (R4): a change is reported, moves the fault entries and reaches the owner. Where the
old health and the new each stand for an entry, the old one ends before the new one is raised (log 42); the
owner hears of it last (log 46). -/
def State.setHealth (s : State) (p : Nat) (h : Health) : State :=
  let old := (s.point p).health
  if old = h then s
  else
    let s := (s.putPoint p { s.point p with health := h }).report (.pointState p h)
    let s := (s.endHealth p old).raiseHealth p
    if h = .missing ∨ h = .wrongKind then s.ownerLoses p else s

/-! ## Outcomes of an exchange (R3, R5, R7) -/

/-- A press read from a CALL point (R7, R127): intercepted in a guarded SET zone, and otherwise handed to the CQC. -/
def State.press (s : State) (p : Nat) : State :=
  if s.zoneMode (s.point p).cfg.zone == .set && s.intercepts p then s.raiseAndEnd .callInSet (.point p)
  else s.callPress p

/-- A good reply is delivered to the owner of its kind (R5). -/
def State.deliver (s : State) (p : Nat) (i : Input) : State :=
  match i with
  | .smoke r | .heat r => s.detectorReply p r.toNat
  | .manual op => s.manualReply p op
  | .presence a => s.presenceReply p a
  | .door c e f => s.doorReply p c e f
  | .call req => if req then s.press p else s
  | .lamp g b => s.lampReply p g b
  | .sign g => s.signReply p g

/-- A good reply (R3, R4): the input is kept and delivered, and the outcome is then applied to the misses and the health. -/
def State.goodReply (s : State) (p : Nat) (i : Input) : State :=
  let s := (s.putPoint p { s.point p with lastInput := some i }).deliver p i
  (s.putPoint p { s.point p with misses := 0 }).setHealth p .normal

/-- An answer of another kind (R3, R4). -/
def State.wrongReply (s : State) (p : Nat) : State :=
  (s.putPoint p { s.point p with misses := 0 }).setHealth p .wrongKind

/-- A miss (R4). -/
def State.miss (s : State) (p : Nat) : State :=
  let m := min 3 ((s.point p).misses + 1)
  let s := s.putPoint p { s.point p with misses := m }
  if m = 3 then s.setHealth p .missing else s

/-- The answer of point `p` (R3). -/
def State.takeAnswer (s : State) (p : Nat) (a : Answer) : State :=
  match a with
  | .input i => if i.kind = (s.point p).cfg.kind then s.goodReply p i else s.wrongReply p
  | .foreign => s.wrongReply p

/-- The exchange open on a loop ends with outcome `f`, and the scanner moves on (R3). A point unconfigured meanwhile takes
nothing from it; with no exchange open nothing changes. -/
def State.endExchange (s : State) (l : LoopId) (f : State → Nat → State) : State :=
  match (s.scanner l).exchange with
  | some e => (if (s.point e.point).cfg.configured then f s e.point else s).advance l e.point
  | none => s

/-- POINT_REPLY (R3): the device polled answers. -/
def execPointReply (l : LoopId) (a : Answer) (s : State) : Host.Outcome State Fault Refusal :=
  done (s.endExchange l fun t p => t.takeAnswer p a)

/-- REPLY_WINDOW_EXPIRY (R3): no answer within the reply window, a miss. -/
def execReplyWindowExpiry (l : LoopId) (s : State) : Host.Outcome State Fault Refusal :=
  done (s.endExchange l State.miss)

/-! ## Effective isolation (R14, R18) -/

/-- A point comes under effective isolation (R14): its entries are cleared before its owner acts (log 42). -/
def State.beginIsolation (s : State) (p : Nat) : State :=
  let s := s.clearObject p
  match (s.point p).cfg.kind with
  | .smoke | .heat => s.isolateDetector p
  | .presence => s.putPresence p false
  | .door => s.isolateDoor p
  | .lamp => s.isolateLamp p
  | .sign => s.isolateSign p
  | .manual | .call => s

/-- A point leaves effective isolation (R18): the entry of its health is raised before its owner acts (log 42). -/
def State.endIsolation (s : State) (p : Nat) : State :=
  let s := s.raiseHealth p
  match (s.point p).cfg.kind with
  | .smoke | .heat => s.freeDetector p
  | .door => s.freeDoor p
  | .call => s.freeCall p
  | .manual | .presence | .lamp | .sign => s

/-- Of the points `ps`, those that were not under effective isolation in `s` and are in `t` come under it, and those that
were and are not leave it, one after the other in the order of the list (log 42). -/
def State.seeIsolation (t s : State) (ps : List Nat) : State :=
  t.each ps fun p u =>
    if !s.effective p && t.effective p then u.beginIsolation p
    else if s.effective p && !t.effective p then u.endIsolation p
    else u

/-- The isolation of a point becomes `x`, reported as ISOLATION, with what follows (R13, R15, R17). -/
def State.isolatePoint (s : State) (p : Nat) (x : Isolation) : State :=
  State.seeIsolation
    ((s.putPoint p { s.point p with isolation := x }).report (.isolation (.point p) x.view)) s [p]

/-- The configured points of a zone, ascending. -/
def State.pointsOf (s : State) (z : Nat) : List Nat :=
  pointNumbers.filter fun p => (s.point p).cfg.configured && (s.point p).cfg.zone == z

/-- The isolation of a zone becomes `x`, reported as ISOLATION, with what follows for its points (R49, R50), in ascending
point number (log 42). -/
def State.isolateZone (s : State) (z : Nat) (x : Isolation) : State :=
  State.seeIsolation
    ((s.putZone z { s.zone z with isolation := x }).report (.isolation (.zone z) x.view)) s (s.pointsOf z)

/-- The numbers now standing isolated, as the area is to hold them (R16). -/
def State.standing (s : State) : Area :=
  ⟨pointNumbers.filter fun p => (s.point p).cfg.configured && (s.point p).isolation == .standing,
    (List.range 48).filter fun z => (s.zone z).isolation == .standing⟩

/-- The reply to a request that moved a STANDING isolation follows the write of the area; any other is ready at once
(R16). -/
def State.replyAfter (s : State) (standing : Bool) (i : Instr) (st : Status) : State :=
  if standing then
    { s with
      store.areaWrite := some s.standing
      link.heldReply := some ⟨(requestCode i).getD 0, requestTag i, st, .none⟩ }
  else s.refuse i st

/-! ## ISOLATE and RESTORE_ISOLATION (R13, R17, R49, R50) -/

/-- The detector of the point is in ALARM. -/
def State.inAlarm (s : State) (p : Nat) : Bool := (s.detector p).any fun d => d.state == .alarm

/-- The point is a MANUAL point whose operation is latched in its zone. -/
def State.isLatched (s : State) (p : Nat) : Bool :=
  s.isKind p .manual && (s.zone (s.point p).cfg.zone).latched.contains p

/-- The number is that of no configured point. -/
def State.noPoint (s : State) (p : Nat) : Bool := !isPoint p || !(s.point p).cfg.configured

/-- The isolation a target holds. -/
def State.isolationOf (s : State) : Target → Isolation
  | .point p => (s.point p).isolation
  | .zone z => (s.zone z).isolation

/-- The target does not exist. -/
def State.noTarget (s : State) : Target → Bool
  | .point p => s.noPoint p
  | .zone z => 47 < z

/-- Fire keeps the target from being isolated (R13, R49). -/
def State.burning (s : State) : Target → Bool
  | .point p => s.inAlarm p || s.isLatched p
  | .zone z => (s.zone z).fire != .normal

/-- The isolation of the target becomes `x`. -/
def State.isolateTarget (s : State) (x : Isolation) : Target → State
  | .point p => s.isolatePoint p x
  | .zone z => s.isolateZone z x

def serveIsolate (tag : Byte) (target : Target) (ask : IsolationAsk) (s : State) : State :=
  let i := Instr.isolate tag target ask
  let standing := s.isolationOf target == .standing || givenIsolation ask == .standing
  if s.noTarget target then s.refuse i .noObject
  else if standing && s.store.saving.isSome then s.refuse i .busy
  else if s.burning target then s.refuse i .wrongState
  else (s.isolateTarget (givenIsolation ask) target).replyAfter standing i (clampStatus (minutesClamped ask))

/-- ISOLATE (R13, R49). -/
def execIsolate (tag : Byte) (target : Target) (ask : IsolationAsk) (s : State) : Host.Outcome State Fault Refusal :=
  request (.isolate tag target ask) (serveIsolate tag target ask) s

def serveRestoreIsolation (tag : Byte) (target : Target) (s : State) : State :=
  let i := Instr.restoreIsolation tag target
  let standing := s.isolationOf target == .standing
  if s.noTarget target then s.refuse i .noObject
  else if standing && s.store.saving.isSome then s.refuse i .busy
  else if (s.isolationOf target).isNone then s.refuse i .wrongState
  else (s.isolateTarget .none target).replyAfter standing i .ok

/-- RESTORE_ISOLATION (R17, R50). -/
def execRestoreIsolation (tag : Byte) (target : Target) (s : State) : Host.Outcome State Fault Refusal :=
  request (.restoreIsolation tag target) (serveRestoreIsolation tag target) s

/-- A TEMPORARY isolation, with its count. -/
def Isolation.isTemporary : Isolation → Bool
  | .temporary _ => true
  | _ => false

/-- POINT_ISOLATION_EXPIRY (R15). -/
def execPointIsolationExpiry (p : Nat) (s : State) : Host.Outcome State Fault Refusal :=
  done (if (s.point p).isolation.isTemporary then s.isolatePoint p .none else s)

/-- ZONE_ISOLATION_EXPIRY (R50). -/
def execZoneIsolationExpiry (z : Nat) (s : State) : Host.Outcome State Fault Refusal :=
  done (if (s.zone z).isolation.isTemporary then s.isolateZone z .none else s)

/-! ## CFG_POINT (R9, R10, R11) -/

/-- The limit on configured points of a kind (R10). -/
def kindLimit : Kind → Nat
  | .door => 32
  | .call => 40
  | .lamp => 96
  | .sign => 64
  | .smoke | .heat | .manual | .presence => 254

/-- The configuration a setting asks for, or none for a value that R9 refuses. -/
def readPoint : Option PointSetting → Option PointCfg
  | none => some .unused
  | some x =>
    match x.kind with
    | none => none
    | some k =>
      if 47 < x.zone ∨ (k = .call ∧ x.cls = none) then none
      else some ⟨true, k, x.zone, if k = .call then x.cls else none⟩

/-- The record would have a configured kind beyond its limit (R10). -/
def State.overLimit (s : State) (p : Nat) (c : PointCfg) : Bool :=
  c.configured && !s.isKind p c.kind && kindLimit c.kind < s.countKind c.kind + 1

/-- The request unconfigures the point or changes its kind. -/
def PointCfg.losesKind (old c : PointCfg) : Bool := old.configured && (!c.configured || c.kind != old.kind)

/-- The request moves a configured point to another zone. -/
def PointCfg.moves (old c : PointCfg) : Bool := old.configured && c.configured && c.zone != old.zone

/-- Something keeps the point from the change (R9, last three lines). -/
def State.pointHeld (s : State) (p : Nat) (c : PointCfg) : Bool :=
  let old := (s.point p).cfg
  (old.losesKind c &&
      ((s.doorOf p).isSome || (s.lamp p).isSome || (s.signOf p).isSome || (s.calls.ofPoint p).isSome))
    || ((old.losesKind c || old.moves c) && (s.inAlarm p || s.isLatched p))

/-- The word the owner of a kind writes for a record newly of that kind (R6, R20, R45, R93, R131, R148); a lamp's follows
from R157. -/
def firstWord : Kind → OutWord
  | .smoke | .heat | .manual => .alarm false
  | .presence => .empty
  | .door => unboundDoorWord
  | .call => .call .idle none
  | .lamp => .lamp .off
  | .sign => .sign .dark

/-- The owner of the kind a point loses gives up what it keeps of it (R8, R11, R20, R126): its fault entries first, then a
presence, then a deferred press (log 42). -/
def State.loseKind (s : State) (p : Nat) : State :=
  (((s.clearFaults p).dropPresence p).losePress p).putDetector p none

/-- A record takes a kind afresh, or becomes unconfigured (R11, R20). Its health returns to UNKNOWN without a POINT_STATE:
R4 reports the changes of health that exchanges make, and R11 and R20 name no report here (log 38). -/
def State.renewPoint (s : State) (p : Nat) (c : PointCfg) : State :=
  let s := s.putPoint p (.fresh c (if c.configured then firstWord c.kind else .empty))
  if c.configured && isDetectorKind c.kind then s.putDetector p (some (.created (s.zoneProfile c.zone))) else s

/-- A bound door moves with the zone of its point (R93). -/
def State.moveDoor (s : State) (p : Nat) : State :=
  match s.doorOf p with
  | some d => s.doorEvent d (fun _ _ => .config) fun t => t.placeDoor d
  | none => s

/-- The isolation of a point ends in a CFG_POINT that changes its kind or zone (R17). -/
def State.dropIsolation (s : State) (p : Nat) : State :=
  if (s.point p).isolation.isNone then s
  else (s.putPoint p { s.point p with isolation := .none }).report (.isolation (.point p) .none)

/-- A taken CFG_POINT (R11). What the point loses is reported before the end of its isolation (log 42). -/
def State.configurePoint (s : State) (p : Nat) (c : PointCfg) : State :=
  let old := (s.point p).cfg
  let t :=
    if old.losesKind c then ((s.loseKind p).dropIsolation p).renewPoint p c
    else if !old.configured then s.renewPoint p c
    else
      let u := if old.moves c then s.dropIsolation p else s
      let u := u.putPoint p { u.point p with cfg := c }
      (if old.moves c then (u.seeIsolation s [p]).moveDoor p else u)
  let t := (t.reposition (loopOf p)).refreshLamps
  if c.kind = .call then t.runDeferred else t

def serveCfgPoint (tag : Byte) (p : Nat) (setting : Option PointSetting) (s : State) : State :=
  let i := Instr.cfgPoint tag p setting
  match s.cfgRefusal with
  | some st => s.refuse i st
  | none =>
    if !isPoint p then s.refuse i .noObject
    else
      match readPoint setting with
      | none => s.refuse i .badValue
      | some c =>
        let old := (s.point p).cfg
        if s.overLimit p c then s.refuse i .badValue
        else if s.pointHeld p c then s.refuse i .wrongState
        else if old = c then s.accept i
        else
          (s.configurePoint p c).replyAfter
            ((s.point p).isolation == .standing && (old.losesKind c || old.moves c)) i .ok

/-- CFG_POINT (R9). -/
def execCfgPoint (tag : Byte) (p : Nat) (setting : Option PointSetting) (s : State) : Host.Outcome State Fault Refusal :=
  request (.cfgPoint tag p setting) (serveCfgPoint tag p setting) s

/-! ## Observing (R12, R39) -/

def serveGetPoint (tag : Byte) (p : Nat) (s : State) : State :=
  let i := Instr.getPoint tag p
  if !isPoint p then s.refuse i .noObject
  else
    let x := s.point p
    s.reply i .ok (.point
      ⟨x.cfg, x.health, x.misses, x.isolation.view, s.effective p, x.lastInput, x.word, x.deferred,
        (s.detector p).map Detector.view⟩)

/-- GET_POINT (R12). -/
def execGetPoint (tag : Byte) (p : Nat) (s : State) : Host.Outcome State Fault Refusal :=
  request (.getPoint tag p) (serveGetPoint tag p) s

end Sys2Proof.Machine
end

