-- ==== Sys2Proof/Machine/Settings.lean ====
section
/-! DEFINITION. The settings store and the start (12, sections 12.6 to 12.8): SAVE_SETTINGS, SAVE_DONE, RESTART, START,
GET_SUMMARY, and the state every block takes after start. -/

namespace Sys2Proof.Machine

/-! ## Saving (R168, R169) -/

/-- The most recent values of a profile (R27). -/
def Profile.saved (x : Profile) : ProfileValues := if x.flag then x.pending else x.working

/-- The working configuration as a save copies it (R169). -/
def State.image (s : State) : Image where
  points := s.loops.points.map fun _ x => x.cfg
  zones := s.fire.zones.map fun _ x => x.cfg
  profiles := s.detection.profiles.map fun _ x => x.saved
  groups := s.regimes.map fun _ x => x.cfg
  doors := s.doors.doors.map fun _ x => x.cfg
  pairs := s.doors.pairs.map fun _ x => x.cfg
  exits := s.routes.exits.map fun _ x => x.cfg
  signs := s.routes.signs.map fun _ x => x.cfg
  sequences := s.routes.sequences
  steps := s.routes.steps
  lamps := s.lamps.lamps.map fun _ x => x.map (·.cfg)
  lengths := s.lamps.groups.map fun _ x => x.length

def serveSaveSettings (tag : Byte) (s : State) : State :=
  let i := Instr.saveSettings tag
  match s.cfgRefusal with
  | some st => s.refuse i st
  | none => State.accept { s with store.saving := some s.image } i

/-- SAVE_SETTINGS (R169). -/
def execSaveSettings (tag : Byte) (s : State) : Host.Outcome State Fault Refusal :=
  request (.saveSettings tag) (serveSaveSettings tag) s

/-- A save ends (R169, R74): a good one leaves its copy as the image, a failed one leaves the image with a bad check
value. -/
def State.endSave (s : State) (copy : Image) (good : Bool) : State :=
  let image := if good then copy else s.store.image
  let s := State.report
    { s with store := { s.store with image := image, imageGood := good, saving := none } } (.saveDone good)
  if good then s.endAlarm .settingsFault .none else s.raise .settingsFault .none

/-- SAVE_DONE (R169): with no save in progress nothing changes. -/
def execSaveDone (good : Bool) (s : State) : Host.Outcome State Fault Refusal :=
  done
    (match s.store.saving with
     | some copy => s.endSave copy good
     | none => s)

/-! ## Start (R170) -/

/-- The point table after start (R19): the loaded configuration, with the standing isolations of a good area. -/
def startPoints (img : Image) (area : Area) : Table Point 256 :=
  img.points.map fun p c =>
    { Point.fresh c (if c.configured then firstWord c.kind else .empty) with
      isolation := if c.configured && area.points.contains p then .standing else .none }

/-- The zone records after start (R40). -/
def startZones (img : Image) (area : Area) : Table Zone 48 :=
  img.zones.map fun z c => { Zone.fresh c with isolation := if area.zones.contains z then .standing else .none }

/-- The image a start loads: the one saved, or the configuration for a bad image (R170, steps 1 and 2). -/
def Store.loadedImage (x : Store) : Image := if x.imageGood then x.image else .empty

/-- The area a start applies: the one written, or nothing for a bad one (R170, step 3). -/
def Store.loadedArea (x : Store) : Area := if x.areaGood then x.area else ⟨[], []⟩

/-- The store as a start finds it: a save or a write of the area that the start interrupts leaves its part bad (R170). -/
def Store.found (x : Store) : Store :=
  { x with
    imageGood := x.imageGood && x.saving.isNone, areaGood := x.areaGood && x.areaWrite.isNone,
    saving := none, areaWrite := none }

/-- The store after a start has read it. -/
def Store.started (x : Store) : Store := { x with settingsLoaded := x.imageGood, standingLoaded := x.areaGood }

/-- Every record that follows from the loaded configuration alone (R19, R27, R40, R63, R74, R75, R109, R112, R121, R130,
R144, R148, R156, R159, R170). -/
def startBase (store : Store) (pending : List Instr) : State :=
  let img := store.loadedImage
  let area := store.loadedArea
  { clock := ⟨0, 0, 0, 0⟩
    loops := ⟨startPoints img area, ⟨none, none⟩, ⟨none, none⟩⟩
    detection := ⟨.fill 256 none, img.profiles.map fun _ v => .loaded v⟩
    fire := ⟨startZones img area, ⟨false, 0⟩, ⟨true, 0⟩, false⟩
    alarms := ⟨[], false, false, false⟩
    regimes := img.groups.map fun _ c => .fresh c
    doors := ⟨img.doors.map fun _ c => .fresh c .none, false, true, 0, 0, img.pairs.map fun _ c => .fresh c⟩
    guard := ⟨.fill 4 none, 1, none, .fill 256 false, .fill 32 false, .fill 32 false⟩
    calls := ⟨[], 1⟩
    routes := ⟨img.exits.map fun _ c => ⟨c, false, false⟩, img.signs.map fun _ c => ⟨c, none, none, false⟩, img.sequences,
      img.steps⟩
    lamps := ⟨img.lamps.map fun _ c => c.map Lamp.fresh, img.lengths.map fun _ n => .fresh n⟩
    link :=
      { rx := [], holder := [], reply := none, heldReply := none, sending := none, reports := [], lost := false,
        discards := 0, startDue := false }
    store := store.started
    pending := pending }

/-- The detector records made at start (R20). -/
def State.startDetectors (s : State) : State :=
  { s with
    detection.detectors := s.loops.points.map fun _ x =>
      if x.cfg.configured && isDetectorKind x.cfg.kind then some (.created (s.zoneProfile x.cfg.zone)) else none }

/-- The causes of a door after start (R91): EVAC for an egress door, SCHEDULE for a public door of an OPEN group. -/
def State.startCauses (s : State) (d : Nat) : Causes := ⟨(s.door d).cfg.egress, s.scheduled d, false, none, false⟩

/-- The door records and their output words after start (R91). -/
def State.startDoors (s : State) : State :=
  s.each s.configuredDoors fun d t =>
    (t.putDoor d { t.door d with causes := t.startCauses d }).writeHolder d

/-- The exits' usability, the signs' chosen entries and their face codes after start (R144, R148). -/
def State.startSigns (s : State) : State :=
  s.recomputeUsable.each (List.range 64) fun n t =>
    match (t.sign n).cfg with
    | some c => (t.putSign n { t.sign n with chosen := t.chooseEntry c }).writeSign n
    | none => t

/-- The scan position at the lowest configured address of each loop (R19). -/
def State.startScanners (s : State) : State :=
  { s with loops.scanA := ⟨s.nextPoint .a 0, none⟩, loops.scanB := ⟨s.nextPoint .b 0, none⟩ }

/-- The STARTED report, and SETTINGS_FAULT behind it with settings EMPTY (R170, R74). -/
def State.announceStart (s : State) (restarted : Bool) : State :=
  let s := s.report (.started restarted s.store.settingsLoaded s.store.standingLoaded)
  if s.store.settingsLoaded then s else s.raise .settingsFault .none

/-- A start, power-on and RESTART alike (R170). -/
def State.start (s : State) : State :=
  (((((startBase s.store.found s.pending).startDetectors).startDoors).startSigns.refreshLamps).startScanners).announceStart
    s.link.startDue

/-- START (R170). -/
def execStart (s : State) : Host.Outcome State Fault Refusal := done s.start

/-! ## RESTART (R171) -/

def serveRestart (tag : Byte) (s : State) : State :=
  let i := Instr.restart tag
  match s.cfgRefusal with
  | some st => s.refuse i st
  | none => s.accept i

/-- RESTART (R171): the reply is sent, and the start begins when it has been sent. -/
def execRestart (tag : Byte) (s : State) : Host.Outcome State Fault Refusal := request (.restart tag) (serveRestart tag) s

/-! ## GET_SUMMARY (R172) -/

/-- What GET_SUMMARY returns. -/
def State.summary (s : State) : SummaryView where
  version := Config.deviceVersion
  partTime := s.now
  settingsLoaded := s.store.settingsLoaded
  standingLoaded := s.store.standingLoaded
  saving := s.store.saving.isSome
  evacuate := s.evacuate
  silenced := s.fire.silenced
  evacIn := s.fire.evacIn.level
  mainsOk := s.fire.mainsOk.level
  sounderOut := s.sounderOut
  alertOut := s.alertOut
  evacOut := s.evacOut
  faultOut := s.faultOut
  guardOut := s.guardOut
  latchEvac := s.doors.latchEvac
  latchStartUp := s.doors.latchStartUp
  zonesFirst := s.zonesIn .first
  zonesInvestigate := s.zonesIn .investigate
  zonesConfirmed := s.zonesIn .confirmed
  calls := s.calls.queue.length
  fireEntries := s.alarms.fireCount
  otherEntries := s.alarms.otherCount
  points := [Kind.smoke, .heat, .manual, .presence, .door, .call, .lamp, .sign].map s.countKind
  grants := s.grantList.map fun g => ⟨g.1, g.2.number, g.2.zones, g.2.left.left⟩
  quiet := leftOf s.guard.quiet
  discards := s.link.discards
  reports := s.link.reports.length
  lost := s.link.lost

def serveGetSummary (tag : Byte) (s : State) : State := s.reply (.getSummary tag) .ok (.summary s.summary)

/-- GET_SUMMARY (R172). -/
def execGetSummary (tag : Byte) (s : State) : Host.Outcome State Fault Refusal :=
  request (.getSummary tag) (serveGetSummary tag) s

end Sys2Proof.Machine
end

