-- ==== Sys2Proof/Machine/Frames.lean ====
section
/-! DEFINITION. Frames as bytes (12, sections 12.1, 12.4, 12.5): the check value, the judging of received bytes, and the
bytes of a frame the part sends. -/

namespace Sys2Proof.Machine

/-! ## The check value (R163) -/

/-- One bit of the CRC-16 of generator x¹⁶+x¹²+x⁵+1, most significant bit first. -/
def crcShift (r : BitVec 16) : BitVec 16 := if r.msb then (r <<< 1) ^^^ 0x1021#16 else r <<< 1

/-- One byte enters the register. -/
def crcByte (r : BitVec 16) (b : Byte) : BitVec 16 :=
  crcShift (crcShift (crcShift (crcShift (crcShift (crcShift (crcShift (crcShift
    (r ^^^ (b.setWidth 16 <<< 8)))))))))

/-- The check value of a list of bytes, the register starting at FFFFh. -/
def crc16 (bytes : List Byte) : BitVec 16 := bytes.foldl crcByte 0xFFFF#16

/-- A number of 16 bits as two bytes, high byte first. -/
def bytes16 (v : BitVec 16) : List Byte := [v.extractLsb' 8 8, v.extractLsb' 0 8]

/-! ## Judging what has been received (R164) -/

/-- The start byte of every frame. -/
def startByte : Byte := 0x5A

/-- What the bytes from a start byte on amount to: a frame not yet complete, one to be discarded, or a good frame with its
whole length in bytes. -/
inductive Verdict where
  | incomplete
  | bad
  | good (size : Nat) (kind tag : Byte) (body : List Byte)
deriving DecidableEq, Repr

/-- Judges a list of bytes that begins with a start byte (R163, R164). -/
def judgeFrame (bytes : List Byte) : Verdict :=
  match bytes with
  | _ :: len :: rest =>
    let n := len.toNat
    if n < 2 ∨ 250 < n then .bad
    else if rest.length < n + 2 then .incomplete
    else if bytes16 (crc16 (len :: rest.take n)) = (rest.drop n).take 2 then
      match rest.take n with
      | kind :: tag :: body => .good (n + 4) kind tag body
      | _ => .bad
    else .bad
  | _ => .incomplete

/-! ## Frames sent (R163, 12.4, 12.5) -/

/-- The frame of a kind, a tag and a body. R163 bounds Length at 250 and gives no frame for a longer body, such as a
GET_LAMP_GROUP of 96 lamps; the Length byte of one is here its length modulo 256 (log 49). -/
def frameBytes (kind tag : Byte) (body : List Byte) : List Byte :=
  let inner := BitVec.ofNat 8 (body.length + 2) :: kind :: tag :: body
  startByte :: inner ++ bytes16 (crc16 inner)

/-- A part time as four bytes, high byte first. -/
def bytes32 (n : Nat) : List Byte :=
  [BitVec.ofNat 8 (n / 16777216), BitVec.ofNat 8 (n / 65536), BitVec.ofNat 8 (n / 256), BitVec.ofNat 8 n]

def bitByte (b : Bool) (n : Nat) : Nat := if b then n else 0

def byteOf (n : Nat) : Byte := BitVec.ofNat 8 n

/-- The class code of the entry record (12.5). -/
def classCode : AlarmClass → Nat
  | .fire => 1
  | .security => 2
  | .fault => 3

/-- The kind's place in the table of R64, counting DETECTOR_ALARM as 1. -/
def alarmCode : AlarmKind → Nat
  | .detectorAlarm => 1
  | .manualAlarm => 2
  | .evacInput => 3
  | .intrusionDoor => 4
  | .intrusionPresence => 5
  | .callInSet => 6
  | .exitInSet => 7
  | .doorForced => 8
  | .doorHeldOpen => 9
  | .interlockBreach => 10
  | .pointMissing => 11
  | .wrongKind => 12
  | .detectorDirty => 13
  | .lockFault => 14
  | .lampFault => 15
  | .batteryFault => 16
  | .signFault => 17
  | .callUnanswered => 18
  | .mainsAbsent => 19
  | .settingsFault => 20

/-- The object type and number of the entry record (12.5). -/
def objBytes : Obj → List Byte
  | .none => [0, 0]
  | .point n => [1, byteOf n]
  | .door n => [2, byteOf n]
  | .pair n => [3, byteOf n]

/-- The first five bytes of the entry record: position or FFh, class, kind, object. -/
def entryHead (position : Option Nat) (k : AlarmKind) (o : Obj) : List Byte :=
  byteOf (position.getD 255) :: byteOf (classCode (kindClass k)) :: byteOf (alarmCode k) :: objBytes o

/-- The last ten bytes of the entry record: flags, times, occurrences; zeros for NOT_PLACED. -/
def entryTail : Option Entry → List Byte
  | some e =>
    byteOf (bitByte e.active 1 + bitByte e.accepted 2) :: bytes32 e.first ++ bytes32 e.last ++ [byteOf e.occurrences]
  | none => List.replicate 10 0

/-- The change code of an ALARM_ENTRY report (12.5). -/
def AlarmChange.code : AlarmChange → Nat
  | .new => 1
  | .recurred => 2
  | .notPlaced => 3
  | .cleared => 4

/-- The kind of a report frame (12.5). -/
def ReportBody.code : ReportBody → Byte
  | .started _ _ _ => 0x40
  | .pointState _ _ => 0x41
  | .detectorState _ _ _ _ => 0x42
  | .profileApplied _ => 0x43
  | .zoneFire _ _ _ _ _ => 0x44
  | .evacuation _ _ _ _ => 0x45
  | .alarmEntry _ _ _ _ _ _ => 0x46
  | .groupMode _ _ _ _ => 0x47
  | .segment _ _ _ _ => 0x48
  | .setResult _ _ _ _ => 0x49
  | .doorState _ _ _ _ _ _ _ _ _ _ _ _ => 0x4A
  | .latchState _ _ _ _ => 0x4A
  | .passResult _ _ _ _ => 0x4B
  | .callState _ _ _ _ _ _ _ _ _ => 0x4C
  | .routeChange _ _ _ _ _ _ => 0x4D
  | .lampTest _ _ _ _ _ _ _ => 0x4E
  | .isolation _ _ => 0x4F
  | .grant _ _ _ _ => 0x50
  | .saveDone _ => 0x51

/-- A report body after the common header: the two central layouts, and the open layout of the others (12.5). -/
def ReportBody.bytes : ReportBody → List Byte
  | .started restarted settings standing =>
    [byteOf (if restarted then 2 else 1), byteOf (if settings then 1 else 2), byteOf (if standing then 1 else 2),
      Config.deviceVersion]
  | .alarmEntry change k o position entry removed =>
    byteOf change.code :: byteOf (bitByte removed 1) :: entryHead position k o ++ entryTail entry
  | b => Config.reportLayout b

/-- A reply body after its status: the central layout of GET_ALARMS, nothing, or the open layout of the others (12.5). -/
def ReplyBody.bytes : ReplyBody → List Byte
  | .none => []
  | .alarms v =>
    [byteOf v.fireCount, byteOf v.otherCount, byteOf (bitByte v.faultOut 1), byteOf (bitByte v.guardOut 1),
      byteOf (bitByte v.markFire 1 + bitByte v.markSecurity 2 + bitByte v.markFault 4), byteOf v.page.length]
      ++ v.page.flatMap fun e => entryHead (some e.1) e.2.kind e.2.obj ++ entryTail (some e.2)
  | b => Config.replyLayout b

/-- The bytes of a frame the part sends (R163, R165, 12.4). -/
def OutFrame.bytes : OutFrame → List Byte
  | .reply r => frameBytes (r.code ||| 0x80) r.tag (r.status.code :: r.body.bytes)
  | .report r lost => frameBytes r.body.code 0 (byteOf (bitByte lost 1) :: bytes32 r.time ++ r.body.bytes)

end Sys2Proof.Machine
end

