-- ==== Sys2Proof/Machine/Link.lean ====
section
/-! DEFINITION. The control link port (12, sections 12.2 to 12.4): the receiver, the request holder, the transmit path, and
the ends of frames and of store writes. -/

namespace Sys2Proof.Machine

/-! ## Serving a request (R165) -/

/-- The request is handed to the block that owns it (R165); an event of the part is no request. -/
def serveRequest (i : Instr) (s : State) : State :=
  match i with
  | .getSummary t => serveGetSummary t s
  | .getPoint t p => serveGetPoint t p s
  | .getZone t z => serveGetZone t z s
  | .getGroup t g => serveGetGroup t g s
  | .getDoor t d => serveGetDoor t d s
  | .getPair t q => serveGetPair t q s
  | .getCalls t => serveGetCalls t s
  | .getSign t n => serveGetSign t n s
  | .getExit t e => serveGetExit t e s
  | .getLampGroup t g => serveGetLampGroup t g s
  | .getAlarms t n => serveGetAlarms t n s
  | .cfgPoint t p x => serveCfgPoint t p x s
  | .cfgZone t z x => serveCfgZone t z x s
  | .cfgProfile t n v => serveCfgProfile t n v s
  | .cfgGroup t g e m => serveCfgGroup t g e m s
  | .cfgDoor t d x => serveCfgDoor t d x s
  | .cfgPair t q x => serveCfgPair t q x s
  | .cfgExit t e x => serveCfgExit t e x s
  | .cfgSign t n x => serveCfgSign t n x s
  | .cfgSequence t q f c x => serveCfgSequence t q f c x s
  | .cfgLamp t p x => serveCfgLamp t p x s
  | .cfgLampGroup t g n => serveCfgLampGroup t g n s
  | .saveSettings t => serveSaveSettings t s
  | .isolate t x a => serveIsolate t x a s
  | .restoreIsolation t x => serveRestoreIsolation t x s
  | .acceptFire t z => serveAcceptFire t z s
  | .confirmFire t z => serveConfirmFire t z s
  | .silence t => serveSilence t s
  | .resound t => serveResound t s
  | .fireReset t => serveFireReset t s
  | .stageSegment t g m n r => serveStageSegment t g m n r s
  | .setMode t g m => serveSetMode t g m s
  | .releaseDoor t d n => serveReleaseDoor t d n s
  | .holdDoor t d => serveHoldDoor t d s
  | .lockDoor t d => serveLockDoor t d s
  | .doorRestore t => serveDoorRestore t s
  | .grantPassage t zs n => serveGrantPassage t zs n s
  | .endPassage t n => serveEndPassage t n s
  | .answerCall t n => serveAnswerCall t n s
  | .holdCall t n => serveHoldCall t n s
  | .endCall t n => serveEndCall t n s
  | .blockExit t e => serveBlockExit t e s
  | .unblockExit t e => serveUnblockExit t e s
  | .startTest t g => serveStartTest t g s
  | .suspendTest t g => serveSuspendTest t g s
  | .resumeTest t g => serveResumeTest t g s
  | .stopTest t g => serveStopTest t g s
  | .acceptAlarm t x => serveAcceptAlarm t x s
  | .restart t => serveRestart t s
  | .start | .receiveByte _ | .frameGapTimeout | .unknownKind _ _ | .transmitFrameEnd | .standingAreaWriteDone
  | .saveDone _ | .scanStart _ | .pointReply _ _ | .replyWindowExpiry _ | .startUpHoldEnd | .driftChance _
  | .heatWindowCapture _ | .acceptTimerExpiry _ | .investigationTimerExpiry _ | .pointIsolationExpiry _
  | .zoneIsolationExpiry _ | .lineInputSample _ _ | .evacInChange _ | .mainsOkChange _ | .segmentExpiry _
  | .exitTimeExpiry _ | .retryTimerExpiry _ | .releaseTimerExpiry _ | .graceTimerExpiry _ | .closeIgnoreWindowEnd _
  | .allowanceTimerExpiry _ | .quietTimerExpiry _ | .pendingWaitExpiry _ | .gmQuietTimerExpiry | .grantExpiry _
  | .offerTimerExpiry _ | .limitTimerExpiry _ | .sequenceStep _ | .suspensionLimit _ | .testCompleted _
  | .rechargeExpiry _ => s

/-- The request a frame of a request kind carries, or none where its body's length is not what the kind's fields require
(R165). The fields' layout is open (log 10); what it gives is taken only if it is a request of this kind and tag. -/
def readRequest (kind tag : Byte) (body : List Byte) : Option Instr :=
  match fieldlessRequest kind tag with
  | some i => if body = [] then some i else none
  | none =>
    match Config.requestFields kind tag body with
    | some i => if requestCode i = some kind ∧ requestTag i = tag then some i else none
    | none => none

/-- A taken frame is judged: UNKNOWN_KIND, BAD_VALUE, or handed to its block (R165). -/
def State.serveFrame (s : State) (kind tag : Byte) (body : List Byte) : State :=
  if !isRequestCode kind then s.answer kind tag .unknownKind .none
  else
    match readRequest kind tag body with
    | some i => serveRequest i s
    | none => s.answer kind tag .badValue .none

/-- The CLP takes the oldest frame in the holder when it is serving no request (R165). -/
def State.takeHeld (s : State) : State :=
  if s.link.serving || s.link.startDue then s
  else
    match s.link.holder with
    | [] => s
    | h :: rest =>
      let s : State := { s with link.holder := rest }
      match h with
      | .frame kind tag body => s.serveFrame kind tag body
      | .request i => serveRequest i s

/-! ## Receiving (R164) -/

/-- Examines received bytes from HUNTING on, at most `fuel` frames: `gap` says that a gap has ended whatever frame is not
complete (R164). -/
def State.examine (gap : Bool) : Nat → List Byte → State → State
  | 0, _, s => { s with link.rx := [] }
  | fuel + 1, bytes, s =>
    match bytes.dropWhile fun b => b != startByte with
    | [] => { s with link.rx := [] }
    | b :: rest =>
      match judgeFrame (b :: rest) with
      | .incomplete => if gap then s.discard.examine gap fuel rest else { s with link.rx := b :: rest }
      | .bad => s.discard.examine gap fuel rest
      | .good n kind tag body => ((s.hold (.frame kind tag body)).takeHeld).examine gap fuel ((b :: rest).drop n)

/-- RECEIVE_BYTE (R164). -/
def execReceiveByte (b : Byte) (s : State) : Host.Outcome State Fault Refusal :=
  done (s.examine false (s.link.rx.length + 2) (s.link.rx ++ [b]))

/-- FRAME_GAP_TIMEOUT (R164): the frame being received is discarded. -/
def execFrameGapTimeout (s : State) : Host.Outcome State Fault Refusal :=
  done (s.examine true (s.link.rx.length + 1) s.link.rx)

/-- UNKNOWN_KIND (R165): a frame of a kind that is none of the request kinds is passed to the holder and, when the CLP
serves none, taken and replied UNKNOWN_KIND. A request kind is not this command's, and changes nothing. -/
def execUnknownKind (kind tag : Byte) (s : State) : Host.Outcome State Fault Refusal :=
  done (if isRequestCode kind then s else (s.hold (.frame kind tag [])).takeHeld)

/-! ## The transmit path (R166, R171) -/

/-- The reply to a taken RESTART (R171). -/
def OutFrame.endsInStart : OutFrame → Bool
  | .reply r => r.code == 0x39 && r.status == .ok
  | .report _ _ => false

def OutFrame.isReply : OutFrame → Bool
  | .reply _ => true
  | .report _ _ => false

/-- The frame being sent has been sent (R165, R166, R171). -/
def State.endSending (s : State) (f : OutFrame) : State :=
  let s : State := { s with link.sending := none }
  if f.endsInStart then { s with link.startDue := true } else if f.isReply then s.takeHeld else s

/-- TRANSMIT_FRAME_END (R166): with no frame being sent nothing changes. -/
def execTransmitFrameEnd (s : State) : Host.Outcome State Fault Refusal :=
  done
    (match s.link.sending with
     | some f => s.endSending f
     | none => s)

/-! ## The standing-isolation area (R16) -/

/-- The area has been written, and the held reply is ready (R16). -/
def State.endAreaWrite (s : State) (a : Area) : State :=
  { s with
    store.area := a, store.areaGood := true, store.areaWrite := none,
    link.reply := s.link.heldReply, link.heldReply := none }

/-- STANDING_AREA_WRITE_DONE (R16): with no write in progress nothing changes. -/
def execStandingAreaWriteDone (s : State) : Host.Outcome State Fault Refusal :=
  done
    (match s.store.areaWrite with
     | some a => s.endAreaWrite a
     | none => s)

end Sys2Proof.Machine
end

