-- ==== Sys2Proof/Machine/Time.lean ====
section
/-! DEFINITION. Elapsed time (00_scope, Time): one tick of every running timer, and the event of the part's own that comes
next when no command waits (logs 2, 4 and 5). -/

namespace Sys2Proof.Machine

/-! ## One tick of each record -/

/-- A count in seconds, absent or running. -/
def tickSecond (c : Option Countdown) : Option Countdown := c.map (Countdown.tick Config.ticksPerSecond)

def Isolation.tick : Isolation → Isolation
  | .temporary m => .temporary (m.tick Config.ticksPerMinute)
  | x => x

def ZoneTimer.tick : ZoneTimer → ZoneTimer
  | .accept c => .accept (c.tick Config.ticksPerSecond)
  | .investigation c => .investigation (c.tick Config.ticksPerSecond)

def Zone.tick (x : Zone) : Zone := { x with isolation := x.isolation.tick, timer := x.timer.map ZoneTimer.tick }

/-- A group's counts; segment and retry are held while EVACUATE is active (R79, R86, R87). -/
def Group.tick (held : Bool) (x : Group) : Group :=
  { x with
    setting := tickSecond x.setting
    retry := if held then x.retry else tickSecond x.retry
    current := if held then x.current
      else x.current.map fun c => { c with left := c.left.tick Config.ticksPerSecond } }

def Door.tick (x : Door) : Door :=
  { x with
    release := tickSecond x.release, allow := tickSecond x.allow, grace := tickSecond x.grace,
    ignore := tickSecond x.ignore }

def Quiet.tick : Quiet → Quiet
  | .quiet c => .quiet (c.tick Config.ticksPerSecond)
  | x => x

def Pair.tick (x : Pair) : Pair :=
  { x with
    quietX := x.quietX.tick, quietY := x.quietY.tick,
    slot := x.slot.map fun r => { r with wait := r.wait.tick Config.ticksPerSecond } }

def Call.tick (x : Call) : Call :=
  match x.state with
  | .offered ch c => { x with state := .offered ch (c.tick Config.ticksPerSecond) }
  | .connected ch t c => { x with state := .connected ch t (c.tick Config.ticksPerSecond) }
  | _ => x

/-- A lamp group's counts: remaining seconds while RUNNING, suspended seconds while SUSPENDED, and the recharge (R159 to
R162). Suspended seconds that would reach 3600 wait for the limit at 3599. -/
def LampGroup.tick (x : LampGroup) : LampGroup :=
  match x.state with
  | .running => { x with remaining := x.remaining.tick Config.ticksPerSecond }
  | .suspended =>
    if x.suspendedTicks + 1 < Config.ticksPerSecond then { x with suspendedTicks := x.suspendedTicks + 1 }
    else if x.suspended < 3599 then { x with suspended := x.suspended + 1, suspendedTicks := 0 }
    else { x with suspendedTicks := Config.ticksPerSecond }
  | .recharge => { x with recharge := tickSecond x.recharge }
  | .idle => x

/-- Part time after one tick; after 2³²−1 it returns to 0 (R170, step 4). -/
def Clock.tick (x : Clock) : Clock :=
  let scanA := x.scanA - 1
  let scanB := x.scanB - 1
  if x.ticks + 1 < Config.ticksPerSecond then ⟨x.partTime, x.ticks + 1, scanA, scanB⟩
  else ⟨(x.partTime + 1) % 4294967296, 0, scanA, scanB⟩

/-- One tick elapses. -/
def State.tick (s : State) : State :=
  { s with
    clock := s.clock.tick
    loops.points := s.loops.points.map fun _ x => { x with isolation := x.isolation.tick }
    fire.zones := s.fire.zones.map fun _ x => x.tick
    regimes := s.regimes.map fun _ x => x.tick s.evacuate
    doors.doors := s.doors.doors.map fun _ x => x.tick
    doors.pairs := s.doors.pairs.map fun _ x => x.tick
    guard.grants := s.guard.grants.map fun _ x =>
      x.map fun g => { g with left := g.left.tick Config.ticksPerSecond }
    guard.quiet := tickSecond s.guard.quiet
    calls.queue := s.calls.queue.map Call.tick
    lamps.groups := s.lamps.groups.map fun _ x => x.tick }

/-! ## What is due -/

/-- A count in seconds is to expire. -/
def dueSecond (c : Option Countdown) : Bool := c.any (Countdown.due Config.ticksPerSecond)

def Isolation.due : Isolation → Bool
  | .temporary m => m.due Config.ticksPerMinute
  | _ => false

def Quiet.due : Quiet → Bool
  | .quiet c => c.due Config.ticksPerSecond
  | _ => false

/-- The expiries due at a zone. -/
def Zone.expiries (z : Nat) (x : Zone) : List Instr :=
  (match x.timer with
   | some (.accept c) => if c.due Config.ticksPerSecond then [Instr.acceptTimerExpiry z] else []
   | some (.investigation c) => if c.due Config.ticksPerSecond then [Instr.investigationTimerExpiry z] else []
   | none => [])
  ++ if x.isolation.due then [.zoneIsolationExpiry z] else []

/-- The expiry due at a point. -/
def Point.expiries (p : Nat) (x : Point) : List Instr := if x.isolation.due then [.pointIsolationExpiry p] else []

/-- The expiries due at a group; segment and retry are held while EVACUATE is active. -/
def Group.expiries (held : Bool) (g : Nat) (x : Group) : List Instr :=
  (if dueSecond x.setting then [Instr.exitTimeExpiry g] else [])
  ++ (if !held && dueSecond (x.current.map (·.left)) then [Instr.segmentExpiry g] else [])
  ++ if !held && dueSecond x.retry then [.retryTimerExpiry g] else []

/-- The expiries due at a door. -/
def Door.expiries (d : Nat) (x : Door) : List Instr :=
  (if dueSecond x.release then [Instr.releaseTimerExpiry d] else [])
  ++ (if dueSecond x.grace then [Instr.graceTimerExpiry d] else [])
  ++ (if dueSecond x.ignore then [Instr.closeIgnoreWindowEnd d] else [])
  ++ if dueSecond x.allow then [.allowanceTimerExpiry d] else []

/-- The expiries due at a pair: the quiet timers of its doors, and its pending wait. -/
def Pair.expiries (q : Nat) (x : Pair) : List Instr :=
  (match x.cfg with
   | some c =>
     (if x.quietX.due then [Instr.quietTimerExpiry c.doorX] else [])
     ++ if x.quietY.due then [.quietTimerExpiry c.doorY] else []
   | none => [])
  ++ if dueSecond (x.slot.map (·.wait)) then [.pendingWaitExpiry q] else []

/-- The expiry due at a grant. -/
def Grant.expiries (x : Grant) : List Instr :=
  if x.left.due Config.ticksPerSecond then [.grantExpiry x.number] else []

/-- The expiry due at a call. -/
def Call.expiries (x : Call) : List Instr :=
  match x.state with
  | .offered _ c => if c.due Config.ticksPerSecond then [.offerTimerExpiry x.number] else []
  | .connected _ _ c => if c.due Config.ticksPerSecond then [.limitTimerExpiry x.number] else []
  | _ => []

/-- The expiry due at a lamp group. -/
def LampGroup.expiries (g : Nat) (x : LampGroup) : List Instr :=
  match x.state with
  | .running => if x.remaining.due Config.ticksPerSecond then [.testCompleted g] else []
  | .suspended => if Config.ticksPerSecond ≤ x.suspendedTicks then [.suspensionLimit g] else []
  | .recharge => if dueSecond x.recharge then [.rechargeExpiry g] else []
  | .idle => []

/-- The expiries due, in the model's order (log 5). -/
def State.expiries (s : State) : List Instr :=
  (List.range 48).flatMap (fun z => (s.zone z).expiries z)
  ++ pointNumbers.flatMap (fun p => (s.point p).expiries p)
  ++ (List.range 8).flatMap (fun g => (s.group g).expiries s.evacuate g)
  ++ (List.range 32).flatMap (fun d => (s.door d).expiries d)
  ++ (List.range 8).flatMap (fun q => (s.pair q).expiries q)
  ++ (if dueSecond s.guard.quiet then [Instr.gmQuietTimerExpiry] else [])
  ++ s.grantList.flatMap (fun g => g.2.expiries)
  ++ s.calls.queue.flatMap Call.expiries
  ++ (List.range 4).flatMap (fun g => (s.lampGroup g).expiries g)

/-- What ends within the present tick on the lines, when nothing arrives there: a due start, the end of the frame being
sent, a gap in the frame being received, and the reply windows of the open exchanges. -/
def State.lineEvents (s : State) : List Instr :=
  (if s.link.startDue then [Instr.start] else [])
  ++ (if s.link.sending.isSome then [Instr.transmitFrameEnd] else [])
  ++ (if s.link.rx.isEmpty then [] else [Instr.frameGapTimeout])
  ++ (if s.loops.scanA.exchange.isSome then [Instr.replyWindowExpiry .a] else [])
  ++ if s.loops.scanB.exchange.isSome then [.replyWindowExpiry .b] else []

/-- The scans due (R1). -/
def State.scansDue (s : State) : List Instr :=
  (if s.clock.scanA = 0 then [Instr.scanStart .a] else []) ++ if s.clock.scanB = 0 then [.scanStart .b] else []

/-- The event of the part's own that comes next, if one is due now (log 5). -/
def State.ownEvent (s : State) : Option Instr := (s.lineEvents ++ s.expiries ++ s.scansDue).head?

end Sys2Proof.Machine
end

