-- ==== Sys2Proof/Machine/Dispatch.lean ====
section
/-! DEFINITION. The dispatch of a command to its meaning. -/

namespace Sys2Proof.Machine

def exec (i : Instr) (s : State) : Host.Outcome State Fault Refusal :=
  match i with
  | .start => Sys2Proof.Machine.execStart s
  | .receiveByte byte => Sys2Proof.Machine.execReceiveByte byte s
  | .frameGapTimeout => Sys2Proof.Machine.execFrameGapTimeout s
  | .unknownKind kind tag => Sys2Proof.Machine.execUnknownKind kind tag s
  | .transmitFrameEnd => Sys2Proof.Machine.execTransmitFrameEnd s
  | .standingAreaWriteDone => Sys2Proof.Machine.execStandingAreaWriteDone s
  | .saveDone good => Sys2Proof.Machine.execSaveDone good s
  | .getSummary tag => Sys2Proof.Machine.execGetSummary tag s
  | .getPoint tag point => Sys2Proof.Machine.execGetPoint tag point s
  | .getZone tag zone => Sys2Proof.Machine.execGetZone tag zone s
  | .getGroup tag group => Sys2Proof.Machine.execGetGroup tag group s
  | .getDoor tag door => Sys2Proof.Machine.execGetDoor tag door s
  | .getPair tag pair => Sys2Proof.Machine.execGetPair tag pair s
  | .getCalls tag => Sys2Proof.Machine.execGetCalls tag s
  | .getSign tag sign => Sys2Proof.Machine.execGetSign tag sign s
  | .getExit tag exit => Sys2Proof.Machine.execGetExit tag exit s
  | .getLampGroup tag group => Sys2Proof.Machine.execGetLampGroup tag group s
  | .getAlarms tag page => Sys2Proof.Machine.execGetAlarms tag page s
  | .cfgPoint tag point setting => Sys2Proof.Machine.execCfgPoint tag point setting s
  | .cfgZone tag zone setting => Sys2Proof.Machine.execCfgZone tag zone setting s
  | .cfgProfile tag profile values => Sys2Proof.Machine.execCfgProfile tag profile values s
  | .cfgGroup tag group exitTime powerOn => Sys2Proof.Machine.execCfgGroup tag group exitTime powerOn s
  | .cfgDoor tag door setting => Sys2Proof.Machine.execCfgDoor tag door setting s
  | .cfgPair tag pair setting => Sys2Proof.Machine.execCfgPair tag pair setting s
  | .cfgExit tag exit setting => Sys2Proof.Machine.execCfgExit tag exit setting s
  | .cfgSign tag sign setting => Sys2Proof.Machine.execCfgSign tag sign setting s
  | .cfgSequence tag sequence first count steps => Sys2Proof.Machine.execCfgSequence tag sequence first count steps s
  | .cfgLamp tag point setting => Sys2Proof.Machine.execCfgLamp tag point setting s
  | .cfgLampGroup tag group length => Sys2Proof.Machine.execCfgLampGroup tag group length s
  | .saveSettings tag => Sys2Proof.Machine.execSaveSettings tag s
  | .isolate tag target ask => Sys2Proof.Machine.execIsolate tag target ask s
  | .restoreIsolation tag target => Sys2Proof.Machine.execRestoreIsolation tag target s
  | .acceptFire tag zone => Sys2Proof.Machine.execAcceptFire tag zone s
  | .confirmFire tag zone => Sys2Proof.Machine.execConfirmFire tag zone s
  | .silence tag => Sys2Proof.Machine.execSilence tag s
  | .resound tag => Sys2Proof.Machine.execResound tag s
  | .fireReset tag => Sys2Proof.Machine.execFireReset tag s
  | .stageSegment tag group target minutes repeats => Sys2Proof.Machine.execStageSegment tag group target minutes repeats s
  | .setMode tag group mode => Sys2Proof.Machine.execSetMode tag group mode s
  | .releaseDoor tag door seconds => Sys2Proof.Machine.execReleaseDoor tag door seconds s
  | .holdDoor tag door => Sys2Proof.Machine.execHoldDoor tag door s
  | .lockDoor tag door => Sys2Proof.Machine.execLockDoor tag door s
  | .doorRestore tag => Sys2Proof.Machine.execDoorRestore tag s
  | .grantPassage tag zones duration => Sys2Proof.Machine.execGrantPassage tag zones duration s
  | .endPassage tag number => Sys2Proof.Machine.execEndPassage tag number s
  | .answerCall tag number => Sys2Proof.Machine.execAnswerCall tag number s
  | .holdCall tag number => Sys2Proof.Machine.execHoldCall tag number s
  | .endCall tag number => Sys2Proof.Machine.execEndCall tag number s
  | .blockExit tag exit => Sys2Proof.Machine.execBlockExit tag exit s
  | .unblockExit tag exit => Sys2Proof.Machine.execUnblockExit tag exit s
  | .startTest tag group => Sys2Proof.Machine.execStartTest tag group s
  | .suspendTest tag group => Sys2Proof.Machine.execSuspendTest tag group s
  | .resumeTest tag group => Sys2Proof.Machine.execResumeTest tag group s
  | .stopTest tag group => Sys2Proof.Machine.execStopTest tag group s
  | .acceptAlarm tag target => Sys2Proof.Machine.execAcceptAlarm tag target s
  | .restart tag => Sys2Proof.Machine.execRestart tag s
  | .scanStart loop => Sys2Proof.Machine.execScanStart loop s
  | .pointReply loop answer => Sys2Proof.Machine.execPointReply loop answer s
  | .replyWindowExpiry loop => Sys2Proof.Machine.execReplyWindowExpiry loop s
  | .startUpHoldEnd => Sys2Proof.Machine.execStartUpHoldEnd s
  | .driftChance point => Sys2Proof.Machine.execDriftChance point s
  | .heatWindowCapture point => Sys2Proof.Machine.execHeatWindowCapture point s
  | .acceptTimerExpiry zone => Sys2Proof.Machine.execAcceptTimerExpiry zone s
  | .investigationTimerExpiry zone => Sys2Proof.Machine.execInvestigationTimerExpiry zone s
  | .pointIsolationExpiry point => Sys2Proof.Machine.execPointIsolationExpiry point s
  | .zoneIsolationExpiry zone => Sys2Proof.Machine.execZoneIsolationExpiry zone s
  | .lineInputSample evacIn mainsOk => Sys2Proof.Machine.execLineInputSample evacIn mainsOk s
  | .evacInChange active => Sys2Proof.Machine.execEvacInChange active s
  | .mainsOkChange present => Sys2Proof.Machine.execMainsOkChange present s
  | .segmentExpiry group => Sys2Proof.Machine.execSegmentExpiry group s
  | .exitTimeExpiry group => Sys2Proof.Machine.execExitTimeExpiry group s
  | .retryTimerExpiry group => Sys2Proof.Machine.execRetryTimerExpiry group s
  | .releaseTimerExpiry door => Sys2Proof.Machine.execReleaseTimerExpiry door s
  | .graceTimerExpiry door => Sys2Proof.Machine.execGraceTimerExpiry door s
  | .closeIgnoreWindowEnd door => Sys2Proof.Machine.execCloseIgnoreWindowEnd door s
  | .allowanceTimerExpiry door => Sys2Proof.Machine.execAllowanceTimerExpiry door s
  | .quietTimerExpiry door => Sys2Proof.Machine.execQuietTimerExpiry door s
  | .pendingWaitExpiry pair => Sys2Proof.Machine.execPendingWaitExpiry pair s
  | .gmQuietTimerExpiry => Sys2Proof.Machine.execGmQuietTimerExpiry s
  | .grantExpiry number => Sys2Proof.Machine.execGrantExpiry number s
  | .offerTimerExpiry number => Sys2Proof.Machine.execOfferTimerExpiry number s
  | .limitTimerExpiry number => Sys2Proof.Machine.execLimitTimerExpiry number s
  | .sequenceStep sign => Sys2Proof.Machine.execSequenceStep sign s
  | .suspensionLimit group => Sys2Proof.Machine.execSuspensionLimit group s
  | .testCompleted group => Sys2Proof.Machine.execTestCompleted group s
  | .rechargeExpiry group => Sys2Proof.Machine.execRechargeExpiry group s

end Sys2Proof.Machine
end

