-- ==== Sys2Proof/Machine/Step.lean ====
section
/-! DEFINITION. The step: the command at the front of the queue, or, on an empty queue, the part's own time. -/

namespace Sys2Proof.Machine

/-- With no command waiting (logs 4 and 5): the event of the part's own that is due comes about; when none is due, one tick
elapses. -/
def idle (s : State) : Host.Outcome State Fault Refusal :=
  match s.ownEvent with
  | some i => exec i s
  | none => .next s.tick

/-- One step: the command at the front of the queue is taken and run with the queue's rest; an empty queue leaves the part
to its own time. -/
def step (s : State) : Host.Outcome State Fault Refusal :=
  match s.pending with
  | i :: rest => exec i { s with pending := rest }
  | [] => idle s

/-- The command a word spells, put at the front of the queue; unchanged where the word spells none. -/
def State.withFetchWord (s : State) (nbits w : Nat) : State :=
  match Sys2Proof.decodeTableWord nbits w with
  | some i => { s with pending := i :: s.pending }
  | none => s

end Sys2Proof.Machine
end

