-- ==== Sys2Proof/Safety.lean ====
section
/-! DEFINITION. Safe runs, and what a sound state of the part is: the bounds and exclusions that the manual promises of every
state, in the terms statements use. -/

namespace Sys2Proof.Machine

/-- A step that goes on. -/
def SafeStep (s : State) : Prop := ∃ t, step s = .next t

/-- The state that `n` steps lead to, or none when one of them stops. -/
def runSteps : Nat → State → Option State
  | 0, s => some s
  | n + 1, s =>
    match step s with
    | .next t => runSteps n t
    | _ => none

/-- A run of `n` steps that goes on throughout. -/
def SafeRun (n : Nat) (s : State) : Prop := (runSteps n s).isSome

/-- The identity of an entry: its kind and its object (R64). -/
def Entry.identity (e : Entry) : AlarmKind × Obj := (e.kind, e.obj)

/-- An entry as the list may hold it: a FIRE entry is ACTIVE (R68), an accepted entry is ACTIVE (R67, R69, R70), and the
occurrences lie in 1–255 (R65, R66). -/
def Entry.Proper (e : Entry) : Prop :=
  (e.isFire = true → e.active = true) ∧ (e.accepted = true → e.active = true) ∧ 1 ≤ e.occurrences ∧ e.occurrences ≤ 255

/-- The alarm list is sound (R65): at most 24 FIRE entries, at most 40 others, never two of one identity, and every entry
proper. -/
def Alarms.Sound (a : Alarms) : Prop :=
  a.fireCount ≤ 24 ∧ a.otherCount ≤ 40 ∧ (a.entries.map Entry.identity).Nodup ∧ ∀ e ∈ a.entries, e.Proper

/-- The control link port is sound: at most 4 frames in the request holder (R165), at most 96 records in the report queue
(R167), a count of discarded frames of at most 65535 (R164). -/
def Link.Sound (l : Link) : Prop := l.holder.length ≤ 4 ∧ l.reports.length ≤ 96 ∧ l.discards ≤ 65535

/-- The call queue is sound (R130): at most 16 records, in order of admission time, each with a call number of its own in
1–255 and a point of its own that holds no deferred press, and no speech channel held twice. -/
def State.CallsSound (s : State) : Prop :=
  s.calls.queue.length ≤ 16 ∧ 1 ≤ s.calls.next ∧ s.calls.next ≤ 255 ∧
    (∀ r ∈ s.calls.queue, 1 ≤ r.number ∧ r.number ≤ 255 ∧ (s.point r.point).deferred = none) ∧
    (s.calls.queue.map (·.number)).Nodup ∧ (s.calls.queue.map (·.point)).Nodup ∧
    (s.calls.queue.filterMap (·.state.channel)).Nodup ∧ s.calls.queue.Pairwise fun a b => a.admission ≤ b.admission

/-- The speech channels are used as R135 and R140 promise: none is free while a record is eligible, and while EVACUATE is
active no HELP call holds one while a REFUGE call is WAITING. -/
def State.ChannelsUsed (s : State) : Prop :=
  (s.calls.freeChannel = none ∨ ∀ r ∈ s.calls.queue, s.eligible r = false) ∧
    (s.evacuate = true → ∀ r ∈ s.calls.queue, r.cls = .refuge → r.state = .waiting →
      ∀ h ∈ s.calls.queue, h.cls = .help → h.state.channel = none)

/-- What R108 promises: while EVACUATE is active the release latch holds EVAC, and while the latch holds any cause every
configured egress door holds EVAC, and so stands FREE. -/
def State.EgressStandsFree (s : State) : Prop :=
  (s.evacuate = true → s.doors.latchEvac = true) ∧
    (s.latched = true →
      ∀ d < 32, (s.door d).configured = true → (s.door d).cfg.egress = true → (s.door d).causes.evac = true)

/-- Usability and routes are always up to date (R146, R150): every exit is usable exactly as its blocked mark, its zone and
its door make it, and every configured sign has chosen the first of its entries that qualifies. A door that is not
configured holds no LOCK_FAULT. -/
def State.RoutesSound (s : State) : Prop :=
  (∀ d < 32, (s.door d).configured = false → (s.door d).lockFault = false) ∧
    (∀ e < 12, (s.exit e).usable = s.exitUsable (s.exit e)) ∧
    ∀ n < 64, ∀ c, (s.sign n).cfg = some c → (s.sign n).chosen = s.chooseEntry c

/-- No schedule group is SETTING while EVACUATE is active (R87). -/
def State.NoneSettingInEvacuation (s : State) : Prop := s.evacuate = true → ∀ g < 8, (s.group g).setting = none

/-- A configuration that binds as the configuration requests let it: points on the loops and in zones 0–47, each bound door
at a DOOR point and each sign at a SIGN point of its own (R9, R92, R149). -/
def Image.Fits (x : Image) : Prop :=
  (∀ p < 256, (x.points.get p).configured = true → isPoint p = true ∧ (x.points.get p).zone ≤ 47) ∧
    (∀ d < 32, ∀ p, (x.doors.get d).point = some p → (x.points.get p).configured = true ∧
      (x.points.get p).kind = .door ∧ ∀ e < 32, (x.doors.get e).point = some p → e = d) ∧
    ∀ n < 64, ∀ c, x.signs.get n = some c → (x.points.get c.point).configured = true ∧
      (x.points.get c.point).kind = .sign ∧ ∀ m < 64, ∀ y, x.signs.get m = some y → y.point = c.point → m = n

/-- The output word the block that owns a point's kind keeps there: the alarm indicator (R36, R45), the lock and holder of
a bound door (R94, R107), the indicator and channel of a call (R131), the face of a bound sign (R151), the mode of a lamp
(R157). -/
def State.ownedWord (s : State) (p : Nat) : OutWord :=
  if (s.point p).cfg.configured then
    match (s.point p).cfg.kind with
    | .smoke | .heat => .alarm (s.inAlarm p)
    | .manual => .alarm (s.isLatched p)
    | .presence => .empty
    | .door =>
      match s.doorOf p with
      | some d => .door (s.door d).causes.lock (s.holderOf d)
      | none => .door .free .drop
    | .call => s.callWord p
    | .lamp => .lamp (s.lampMode p)
    | .sign =>
      match (s.signOf p).bind fun n => (s.sign n).cfg.map fun c => s.shownFace (s.sign n) c with
      | some f => .sign f
      | none => .sign .dark
  else .empty

/-- Every point carries the output word of its owner, as that block's records and conditions now stand, in a part whose
bindings fit, loaded, saved and being saved: calls and deferred presses at CALL points alone, detectors at SMOKE and HEAT
points, latched operations at MANUAL points of their zone. -/
def State.WordsSound (s : State) : Prop :=
  s.image.Fits ∧ (s.store.imageGood = true → s.store.image.Fits) ∧ (∀ x, s.store.saving = some x → x.Fits) ∧
    (∀ r ∈ s.calls.queue, s.isKind r.point .call = true) ∧
    (∀ p < 256, (s.point p).deferred.isSome = true → s.isKind p .call = true) ∧
    (∀ p < 256, (s.detector p).isSome = true → s.isKind p .smoke = true ∨ s.isKind p .heat = true) ∧
    (∀ z < 48, ∀ p ∈ (s.zone z).latched, s.isKind p .manual = true ∧ (s.point p).cfg.zone = z) ∧
    ∀ p < 256, (s.point p).word = s.ownedWord p

/-! ## What a command leaves unchanged -/

/-- The parts of the state, by block: the point records but for their deferred presses and output
words, the deferred presses, the output words, the scanners; the
detectors and the profiles; the zone records, the line filters, the silenced flag; the alarm list; the groups; the doors,
the release latch, its counts of scans, the interlock pairs; the grants, the quiet timer, the marks of the guard monitor;
the calls; the exits, the signs, the sequences with the step store; the lamps and the lamp groups; of the control link,
what is being received, the request holder, the count of discarded frames, whether a start is due, the report queue with
its lost-reports mark, and the replies that wait with the frame being sent; the store; part time; the queue of commands. -/
inductive Part where
  | clock | points | presses | words | scanners | detectors | profiles | zones | lines | silenced | alarms | regimes
  | doors | latch | scanCounts | pairs | grants | quiet | marks | calls | exits | signs | sequences | lamps | lampGroups
  | receiver | holder | discards | startDue | reports | replies | store | pending
deriving DecidableEq, Repr

/-- Two states agree in a part. -/
def Part.same : Part → State → State → Prop
  | .clock, s, t => t.clock = s.clock
  | .points, s, t =>
    ∀ p, { t.point p with word := .empty, deferred := none } = { s.point p with word := .empty, deferred := none }
  | .presses, s, t => ∀ p, (t.point p).deferred = (s.point p).deferred
  | .words, s, t => ∀ p, (t.point p).word = (s.point p).word
  | .scanners, s, t => t.loops.scanA = s.loops.scanA ∧ t.loops.scanB = s.loops.scanB
  | .detectors, s, t => t.detection.detectors = s.detection.detectors
  | .profiles, s, t => t.detection.profiles = s.detection.profiles
  | .zones, s, t => t.fire.zones = s.fire.zones
  | .lines, s, t => t.fire.evacIn = s.fire.evacIn ∧ t.fire.mainsOk = s.fire.mainsOk
  | .silenced, s, t => t.fire.silenced = s.fire.silenced
  | .alarms, s, t => t.alarms = s.alarms
  | .regimes, s, t => t.regimes = s.regimes
  | .doors, s, t => t.doors.doors = s.doors.doors
  | .latch, s, t => t.doors.latchEvac = s.doors.latchEvac ∧ t.doors.latchStartUp = s.doors.latchStartUp
  | .scanCounts, s, t => t.doors.scansA = s.doors.scansA ∧ t.doors.scansB = s.doors.scansB
  | .pairs, s, t => t.doors.pairs = s.doors.pairs
  | .grants, s, t => t.guard.grants = s.guard.grants ∧ t.guard.nextGrant = s.guard.nextGrant
  | .quiet, s, t => t.guard.quiet = s.guard.quiet
  | .marks, s, t =>
    t.guard.presence = s.guard.presence ∧ t.guard.doorIntrusion = s.guard.doorIntrusion ∧
      t.guard.doorExit = s.guard.doorExit
  | .calls, s, t => t.calls = s.calls
  | .exits, s, t => t.routes.exits = s.routes.exits
  | .signs, s, t => t.routes.signs = s.routes.signs
  | .sequences, s, t => t.routes.sequences = s.routes.sequences ∧ t.routes.steps = s.routes.steps
  | .lamps, s, t => t.lamps.lamps = s.lamps.lamps
  | .lampGroups, s, t => t.lamps.groups = s.lamps.groups
  | .receiver, s, t => t.link.rx = s.link.rx
  | .holder, s, t => t.link.holder = s.link.holder
  | .discards, s, t => t.link.discards = s.link.discards
  | .startDue, s, t => t.link.startDue = s.link.startDue
  | .reports, s, t => t.link.reports = s.link.reports ∧ t.link.lost = s.link.lost
  | .replies, s, t =>
    t.link.reply = s.link.reply ∧ t.link.heldReply = s.link.heldReply ∧ t.link.sending = s.link.sending
  | .store, s, t => t.store = s.store
  | .pending, s, t => t.pending = s.pending

/-- `t` agrees with `s` in every part but those listed. -/
def ChangesOnly (ps : List Part) (s t : State) : Prop := ∀ q : Part, q ∉ ps → q.same s t

/-! ## What the link shows -/

/-- The CLP can take a request at once: it serves none, and no start is due (R165, R171). -/
def Link.free (l : Link) : Bool := !l.serving && !l.startDue

/-- The reply the CLP is serving: being sent, or waiting to be sent (R165, R166). -/
def Link.replying (l : Link) : Option Reply :=
  match l.sending with
  | some (.reply r) => some r
  | _ => l.reply

/-- The reports the part has yet to finish sending, oldest first: the one being sent, then the report queue (R166, R167). -/
def Link.outbox (l : Link) : List Report :=
  (match l.sending with
   | some (.report r _) => [r]
   | _ => []) ++ l.reports

/-- The CLP is serving the reply to request `i` with this status and body: the request's code and tag come back (R165). -/
def State.replies (t : State) (i : Instr) (st : Status) (b : ReplyBody) : Prop :=
  t.link.replying = some ⟨(requestCode i).getD 0, requestTag i, st, b⟩

/-- What waits to be sent is as it was, but for a reply: the report queue, the report being sent and the lost-reports mark
make the same messages. -/
def State.sendsNoReport (s t : State) : Prop := t.link.outbox = s.link.outbox

/-- The reports `bs` have been handed to the CLP, in this order, at the present part time. -/
def State.reportsAll (s t : State) (bs : List ReportBody) : Prop :=
  t.link.outbox = s.link.outbox ++ bs.map fun b => ⟨s.now, b⟩

/-- The report queue has room for `n` more reports (R167). -/
def State.roomFor (s : State) (n : Nat) : Prop := s.link.reports.length + n ≤ 96

end Sys2Proof.Machine
end

