-- ==== Sys2Proof/WellFormed.lean ====
section
/-! DEFINITION. Well-formed commands. An event of the part names an object that exists, and UNKNOWN_KIND carries a kind that
is none of the request kinds. A request is well formed whatever its fields: a value out of range is refused or clamped by
the request's own rule. -/

namespace Sys2Proof

open Machine (isPoint isRequestCode)

/-- A number from 1 to 255, as call and grant numbers are. -/
def isCycleNumber (n : Nat) : Bool := 0 < n && n < 256

/-- The command is well formed. -/
def Instr.wellFormed : Instr → Bool
  | .unknownKind kind _ => !isRequestCode kind
  | .driftChance p | .heatWindowCapture p | .pointIsolationExpiry p => isPoint p
  | .acceptTimerExpiry z | .investigationTimerExpiry z | .zoneIsolationExpiry z => z < 48
  | .segmentExpiry g | .exitTimeExpiry g | .retryTimerExpiry g => g < 8
  | .releaseTimerExpiry d | .graceTimerExpiry d | .closeIgnoreWindowEnd d | .allowanceTimerExpiry d
  | .quietTimerExpiry d => d < 32
  | .pendingWaitExpiry q => q < 8
  | .grantExpiry n | .offerTimerExpiry n | .limitTimerExpiry n => isCycleNumber n
  | .sequenceStep n => n < 64
  | .suspensionLimit g | .testCompleted g | .rechargeExpiry g => g < 4
  | .start | .receiveByte _ | .frameGapTimeout | .transmitFrameEnd | .standingAreaWriteDone | .saveDone _
  | .scanStart _ | .pointReply _ _ | .replyWindowExpiry _ | .startUpHoldEnd | .lineInputSample _ _ | .evacInChange _
  | .mainsOkChange _ | .gmQuietTimerExpiry => true
  | .getSummary _ | .getPoint _ _ | .getZone _ _ | .getGroup _ _ | .getDoor _ _ | .getPair _ _ | .getCalls _
  | .getSign _ _ | .getExit _ _ | .getLampGroup _ _ | .getAlarms _ _ | .cfgPoint _ _ _ | .cfgZone _ _ _
  | .cfgProfile _ _ _ | .cfgGroup _ _ _ _ | .cfgDoor _ _ _ | .cfgPair _ _ _ | .cfgExit _ _ _ | .cfgSign _ _ _
  | .cfgSequence _ _ _ _ _ | .cfgLamp _ _ _ | .cfgLampGroup _ _ _ | .saveSettings _ | .isolate _ _ _
  | .restoreIsolation _ _ | .acceptFire _ _ | .confirmFire _ _ | .silence _ | .resound _ | .fireReset _
  | .stageSegment _ _ _ _ _ | .setMode _ _ _ | .releaseDoor _ _ _ | .holdDoor _ _ | .lockDoor _ _ | .doorRestore _
  | .grantPassage _ _ _ | .endPassage _ _ | .answerCall _ _ | .holdCall _ _ | .endCall _ _ | .blockExit _ _
  | .unblockExit _ _ | .startTest _ _ | .suspendTest _ _ | .resumeTest _ _ | .stopTest _ _ | .acceptAlarm _ _
  | .restart _ => true

end Sys2Proof
end

