-- ==== Sys2Proof/Certificates/Slice0/Obligations.lean ====
section
/-! DEFINITION. The statements for the provers: what each command of the part does, what it leaves unchanged, and the
invariants that every step keeps. -/

open Sys2Proof Sys2Proof.Machine

/-! ## The step and the queue of commands -/

/-- One step takes the command at the front of the queue and runs it with the queue's rest. -/
def Obligations.StepRunsFrontCommand : Prop :=
  ∀ (i : Instr) (rest : List Instr) (s : State), s.pending = i :: rest → step s = exec i { s with pending := rest }

/-- The model's choice (logs 2, 4 and 5): on an empty queue the part's own event that is due runs, and when none is due
one tick of 50 ms elapses. Part time moves at each 20th tick. Each timer, isolation and count that runs takes one tick:
its count falls by one at each whole unit elapsed, a segment and a retry timer are held while EVACUATE is active, and a
lamp group counts what its test state runs (suspended seconds wait at 3599). No other field of any record moves. By that
tick a timer started at n units has n less the whole units elapsed left, and is due when the n-th unit has elapsed. -/
def Obligations.IdleStepRunsOwnEventOrTick : Prop :=
  (∀ s : State, s.pending = [] →
    (∀ i, s.ownEvent = some i → step s = exec i s) ∧
    (s.ownEvent = none →
      let second := Countdown.tick 20
      let isolation := fun (x : Isolation) => match x with
        | .temporary m => .temporary (m.tick 1200)
        | x => x
      let quiet := fun (x : Quiet) => match x with
        | .quiet c => .quiet (second c)
        | x => x
      ∃ t, step s = .next t ∧
        ChangesOnly [.clock, .points, .zones, .regimes, .doors, .pairs, .grants, .quiet, .calls, .lampGroups] s t ∧
        t.clock = ⟨if s.clock.ticks < 19 then s.clock.partTime else (s.clock.partTime + 1) % 4294967296,
          if s.clock.ticks < 19 then s.clock.ticks + 1 else 0, s.clock.scanA - 1, s.clock.scanB - 1⟩ ∧
        (∀ p < 256, t.point p = { s.point p with isolation := isolation (s.point p).isolation }) ∧
        (∀ z < 48, t.zone z = { s.zone z with
          isolation := isolation (s.zone z).isolation
          timer := (s.zone z).timer.map fun x => match x with
            | .accept c => .accept (second c)
            | .investigation c => .investigation (second c) }) ∧
        (∀ g < 8, t.group g = { s.group g with
          setting := (s.group g).setting.map second
          retry := if s.evacuate then (s.group g).retry else (s.group g).retry.map second
          current := if s.evacuate then (s.group g).current
            else (s.group g).current.map fun c => { c with left := second c.left } }) ∧
        (∀ d < 32, t.door d = { s.door d with
          release := (s.door d).release.map second, allow := (s.door d).allow.map second
          grace := (s.door d).grace.map second, ignore := (s.door d).ignore.map second }) ∧
        (∀ q < 8, t.pair q = { s.pair q with
          quietX := quiet (s.pair q).quietX, quietY := quiet (s.pair q).quietY
          slot := (s.pair q).slot.map fun r => { r with wait := second r.wait } }) ∧
        (∀ k < 4, t.guard.grants.get k = (s.guard.grants.get k).map fun g => { g with left := second g.left }) ∧
        t.guard.nextGrant = s.guard.nextGrant ∧ t.guard.quiet = s.guard.quiet.map second ∧
        t.calls = { s.calls with
          queue := s.calls.queue.map fun r => { r with
            state := match r.state with
              | .offered ch c => .offered ch (second c)
              | .connected ch a c => .connected ch a (second c)
              | x => x } } ∧
        (∀ g < 4,
          let x := s.lampGroup g
          t.lampGroup g = match x.state with
            | .running => { x with remaining := second x.remaining }
            | .suspended =>
              if x.suspendedTicks < 19 then { x with suspendedTicks := x.suspendedTicks + 1 }
              else if x.suspended < 3599 then { x with suspended := x.suspended + 1, suspendedTicks := 0 }
              else { x with suspendedTicks := 20 }
            | .recharge => { x with recharge := x.recharge.map second }
            | .idle => x))) ∧
  (∀ unit n k : Nat, 0 < unit → 0 < n →
    let c := Nat.repeat (Countdown.tick unit) k (.start n)
    (k < n * unit → c = ⟨n - k / unit, k % unit⟩ ∧ c.due unit = false) ∧ (k = n * unit → c.due unit = true ∧ c.left = 1))

/-- Every command of the part, in every state, answers a next state, and leaves the queue of commands as it was. -/
def Obligations.EveryCommandAnswersNext : Prop :=
  ∀ (i : Instr) (s : State), ∃ t, exec i s = .next t ∧ t.pending = s.pending

/-! ## Frames and the receiver (R163, R164) -/

/-- A list of bytes that opens with the start byte is judged a good frame exactly when a frame with that kind, tag and
body, as the part itself would send it, stands at its front. -/
def Obligations.GoodFramesAreExactlyFramesSent : Prop :=
  ∀ (bytes : List Byte) (n : Nat) (kind tag : Byte) (body : List Byte), bytes.head? = some startByte →
    (judgeFrame bytes = .good n kind tag body ↔
      body.length ≤ 248 ∧ n = body.length + 6 ∧ ∃ rest, bytes = frameBytes kind tag body ++ rest)

/-- In HUNTING a byte other than 5Ah is passed over and 5Ah opens a frame; after it, a bad length discards the frame at
once, adding one to the count, and a good one is collected. A frame whose check value is wrong is discarded likewise,
and the bytes after its start byte are examined again from HUNTING: a further 5Ah among them opens a frame, which is
passed on when they hold it whole and good. After a gap of more than 20 ms each 5Ah whose frame is not complete is a
discarded frame of its own, and the bytes after it are examined in the same way (log 14); with nothing being received a
gap changes nothing. -/
def Obligations.ReceiverHuntsForStartByte : Prop :=
  ∀ s : State,
    let stays := fun (t : State) =>
      ChangesOnly [.receiver, .reports, .replies] s t ∧ s.sendsNoReport t ∧ t.link.replying = s.link.replying
    let discards := fun (t : State) (n : Nat) =>
      ChangesOnly [.receiver, .discards, .reports, .replies] s t ∧ s.sendsNoReport t ∧
        t.link.replying = s.link.replying ∧ t.link.discards = min 65535 (s.link.discards + n)
    let finds := fun (i : Instr) (post : List Byte) =>
      ∀ n kind tag body, judgeFrame (0x5A :: post) = .good n kind tag body → 0x5A ∉ (0x5A :: post).drop n →
        s.link.free = false → s.link.holder.length < 4 →
        ∃ t, exec i s = .next t ∧ ChangesOnly [.receiver, .holder, .discards, .reports, .replies] s t ∧
          s.sendsNoReport t ∧ t.link.replying = s.link.replying ∧ t.link.rx = [] ∧
          t.link.holder = s.link.holder ++ [.frame kind tag body] ∧ t.link.discards = min 65535 (s.link.discards + 1)
    (∀ b : Byte, s.link.rx = [] →
      ∃ t, exec (.receiveByte b) s = .next t ∧ stays t ∧ t.link.rx = if b = 0x5A then [b] else []) ∧
    (∀ b : Byte, s.link.rx = [0x5A] → 2 ≤ b.toNat → b.toNat ≤ 250 →
      ∃ t, exec (.receiveByte b) s = .next t ∧ stays t ∧ t.link.rx = [0x5A, b]) ∧
    (∀ b : Byte, s.link.rx = [0x5A] → b.toNat < 2 ∨ 250 < b.toNat →
      ∃ t, exec (.receiveByte b) s = .next t ∧ discards t 1 ∧ t.link.rx = []) ∧
    (∀ b rest, s.link.rx ++ [b] = 0x5A :: rest → judgeFrame (0x5A :: rest) = .incomplete →
      ∃ t, exec (.receiveByte b) s = .next t ∧ stays t ∧ t.link.rx = 0x5A :: rest) ∧
    (∀ b rest, s.link.rx ++ [b] = 0x5A :: rest → judgeFrame (0x5A :: rest) = .bad →
      (0x5A ∉ rest → ∃ t, exec (.receiveByte b) s = .next t ∧ discards t 1 ∧ t.link.rx = []) ∧
      (∀ pre post, rest = pre ++ 0x5A :: post → 0x5A ∉ pre →
        (judgeFrame (0x5A :: post) = .incomplete →
          ∃ t, exec (.receiveByte b) s = .next t ∧ discards t 1 ∧ t.link.rx = 0x5A :: post) ∧
        finds (.receiveByte b) post)) ∧
    (0 < s.link.rx.count 0x5A →
      (∀ x, x <:+ s.link.rx → x.head? = some 0x5A → judgeFrame x = .incomplete) →
      ∃ t, exec .frameGapTimeout s = .next t ∧ discards t (s.link.rx.count 0x5A) ∧ t.link.rx = []) ∧
    (∀ rest pre post, s.link.rx = 0x5A :: rest → judgeFrame (0x5A :: rest) = .incomplete → rest = pre ++ 0x5A :: post →
      0x5A ∉ pre → finds .frameGapTimeout post) ∧
    (s.link.rx = [] → ∃ t, exec .frameGapTimeout s = .next t ∧ stays t ∧ t.link.rx = [])

/-- The last byte of a good frame, on a free port with an empty holder, hands the frame on: a kind that is none of the
request kinds is replied UNKNOWN_KIND, a request kind whose body does not fit its fields BAD_VALUE, and any other
request does what its block does with it. UNKNOWN_KIND as a command of its own is replied in the same way. -/
def Obligations.LastByteServesTheFrame : Prop :=
  ∀ (kind tag b : Byte) (body : List Byte) (s : State), s.link.free = true → s.link.holder = [] →
    (isRequestCode kind = false →
      ∃ t, exec (.unknownKind kind tag) s = .next t ∧ ChangesOnly [.reports, .replies] s t ∧ s.sendsNoReport t ∧
        t.link.replying = some ⟨kind, tag, .unknownKind, .none⟩) ∧
    (body.length ≤ 248 → s.link.rx ++ [b] = frameBytes kind tag body →
      (isRequestCode kind = false →
        ∃ t, exec (.receiveByte b) s = .next t ∧ ChangesOnly [.receiver, .reports, .replies] s t ∧ s.sendsNoReport t ∧
          t.link.rx = [] ∧ t.link.replying = some ⟨kind, tag, .unknownKind, .none⟩) ∧
      (isRequestCode kind = true → readRequest kind tag body = none →
        ∃ t, exec (.receiveByte b) s = .next t ∧ ChangesOnly [.receiver, .reports, .replies] s t ∧ s.sendsNoReport t ∧
          t.link.rx = [] ∧ t.link.replying = some ⟨kind, tag, .badValue, .none⟩) ∧
      (∀ i, isRequestCode kind = true → readRequest kind tag body = some i →
        exec (.receiveByte b) s = .next { serveRequest i s with link.rx := [] }.pump))

/-! ## Requests, the holder and the transmit path (R165 to R167) -/

/-- A request that finds the port free is handed to its block and receives exactly one reply: its own code and tag,
once, never silence and never two. One that finds the CLP serving another, or a start due (log 15), has none of its
effects: it joins the request holder in arrival order, or, when the holder keeps 4, is discarded and counted. That a
request command stands for the completed frame, served or held within the one step, is the model's choice (log 1). -/
def Obligations.RequestsAreAnsweredOnceOrHeld : Prop :=
  ∀ (i : Instr) (code : Byte) (s : State), requestCode i = some code →
    (s.link.free = true →
      ∃ t, exec i s = .next t ∧ t = (serveRequest i s).pump ∧ t.link.holder = s.link.holder ∧
        ((∃ st b, t.link.replying = some ⟨code, requestTag i, st, b⟩ ∧ t.link.heldReply = none) ∨
          (∃ st, t.link.replying = none ∧ t.link.heldReply = some ⟨code, requestTag i, st, .none⟩ ∧
            t.store.areaWrite.isSome = true))) ∧
    (s.link.free = false →
      ∃ t, exec i s = .next t ∧ ChangesOnly [.holder, .discards, .reports, .replies] s t ∧ s.sendsNoReport t ∧
        t.link.replying = s.link.replying ∧
        (if s.link.holder.length < 4 then
          t.link.holder = s.link.holder ++ [.request i] ∧ t.link.discards = s.link.discards
        else t.link.holder = s.link.holder ∧ t.link.discards = min 65535 (s.link.discards + 1)))

/-- When a frame has been sent the transmit path chooses a waiting reply first, then the oldest report with the
lost-reports mark as it stands, which then becomes no, and otherwise stays free. After a reply the CLP is free again: it
takes the oldest frame of the holder. A held request is served as it would have been on arrival, and a frame held as its
bytes is judged as one that has just come: UNKNOWN_KIND for a kind that is no request's, BAD_VALUE for a body that does
not fit the kind's fields, and otherwise the request it carries. -/
def Obligations.TransmitPathChoosesReplyThenOldestReport : Prop :=
  ∀ (f : OutFrame) (s : State), s.link.sending = some f → f.endsInStart = false → s.link.startDue = false →
    ((f.isReply = true → s.link.holder = []) →
      ∃ t, exec .transmitFrameEnd s = .next t ∧ ChangesOnly [.reports, .replies] s t ∧
        t.link.heldReply = s.link.heldReply ∧
        match s.link.reply, s.link.reports with
        | some r, q => t.link.sending = some (.reply r) ∧ t.link.reply = none ∧ t.link.reports = q ∧
            t.link.lost = s.link.lost
        | none, r :: q => t.link.sending = some (.report r s.link.lost) ∧ t.link.reply = none ∧ t.link.reports = q ∧
            t.link.lost = false
        | none, [] => t.link.sending = none ∧ t.link.reply = none ∧ t.link.reports = [] ∧ t.link.lost = s.link.lost) ∧
    (∀ (i : Instr) (code : Byte) (rest : List Held), f.isReply = true → s.link.reply = none → s.link.heldReply = none →
      s.link.holder = .request i :: rest → requestCode i = some code →
        exec .transmitFrameEnd s = exec i { s with link.sending := none, link.holder := rest }) ∧
    (∀ (kind tag : Byte) (body : List Byte) (rest : List Held), f.isReply = true → s.link.reply = none →
      s.link.heldReply = none → s.link.holder = .frame kind tag body :: rest →
      let answers := fun (st : Status) =>
        ∃ t, exec .transmitFrameEnd s = .next t ∧ ChangesOnly [.holder, .reports, .replies] s t ∧ s.sendsNoReport t ∧
          t.link.holder = rest ∧ t.link.replying = some ⟨kind, tag, st, .none⟩
      (isRequestCode kind = false → answers .unknownKind) ∧
      (isRequestCode kind = true → readRequest kind tag body = none → answers .badValue) ∧
      (∀ i, isRequestCode kind = true → readRequest kind tag body = some i →
        exec .transmitFrameEnd s = exec i { s with link.sending := none, link.holder := rest }))

/-- A request that is refused has none of its effects: the reply carries the status alone (INTERLOCKED, with the door's
causes), and nothing but the messages of the link has changed. Every request of the part, every reason for refusing. -/
def Obligations.RefusedRequestChangesNothing : Prop :=
  ∀ (i : Instr) (code : Byte) (st : Status) (b : ReplyBody) (s t : State), requestCode i = some code →
    s.link.free = true → exec i s = .next t → t.replies i st b → st ≠ .ok → st ≠ .okClamped → st ≠ .pending →
      ChangesOnly [.reports, .replies] s t ∧ s.sendsNoReport t ∧ (b = .none ∨ st = .interlocked)

/-- Every GET_ request but GET_ALARMS: it is replied OK with what its rule lists, as it stands, or NO_OBJECT for a
number that names nothing, and changes nothing. -/
def Obligations.QueriesAnswerWhatTheyName : Prop :=
  ∀ (tag : Byte) (s : State), s.link.free = true →
    let answers := fun (i : Instr) (st : Status) (b : ReplyBody) =>
      ∃ t, exec i s = .next t ∧ ChangesOnly [.reports, .replies] s t ∧ s.sendsNoReport t ∧ t.replies i st b
    let zonesIn := fun (f : FireState) => (List.range 48).countP fun z => (s.zone z).fire == f
    answers (.getSummary tag) .ok (.summary
      { version := Config.deviceVersion, partTime := s.clock.partTime, settingsLoaded := s.store.settingsLoaded
        standingLoaded := s.store.standingLoaded, saving := s.store.saving.isSome, evacuate := s.evacuate
        silenced := s.fire.silenced, evacIn := s.fire.evacIn.level, mainsOk := s.fire.mainsOk.level
        sounderOut := s.evacuate && !s.fire.silenced
        alertOut := 0 < zonesIn .first + zonesIn .investigate
        evacOut := 0 < zonesIn .confirmed
        faultOut := s.alarms.entries.any fun a => kindClass a.kind == .fault && a.active
        guardOut := s.alarms.entries.any fun a =>
          (a.kind == .intrusionDoor || a.kind == .intrusionPresence) && !a.accepted
        latchEvac := s.doors.latchEvac, latchStartUp := s.doors.latchStartUp, zonesFirst := zonesIn .first
        zonesInvestigate := zonesIn .investigate, zonesConfirmed := zonesIn .confirmed
        calls := s.calls.queue.length
        fireEntries := s.alarms.entries.countP fun a => kindClass a.kind == .fire
        otherEntries := s.alarms.entries.countP fun a => kindClass a.kind != .fire
        points := [Kind.smoke, .heat, .manual, .presence, .door, .call, .lamp, .sign].map fun k =>
          pointNumbers.countP fun p => (s.point p).cfg.configured && (s.point p).cfg.kind == k
        grants := (List.range 4).filterMap fun k =>
          (s.guard.grants.get k).map fun g => ⟨k, g.number, g.zones, g.left.left⟩
        quiet := s.guard.quiet.map (·.left), discards := s.link.discards, reports := s.link.reports.length
        lost := s.link.lost }) ∧
    (∀ p, if isPoint p then
        answers (.getPoint tag p) .ok (.point
          ⟨(s.point p).cfg, (s.point p).health, (s.point p).misses, (s.point p).isolation.view, s.effective p,
            (s.point p).lastInput, (s.point p).word, (s.point p).deferred,
            (s.detector p).map fun d => ⟨d.state, d.k, d.profile, d.history, d.ref, d.dirty, d.drift, d.w, d.window,
              d.lastF, d.lastC⟩⟩)
      else answers (.getPoint tag p) .noObject .none) ∧
    (∀ z, if z < 48 then
        answers (.getZone tag z) .ok (.zone
          ⟨(s.zone z).cfg, (s.group (s.zone z).cfg.group).mode, (s.zone z).isolation.view, (s.zone z).fire,
            (s.zone z).count, (s.zone z).first, (s.zone z).latched, (s.zone z).timer.map ZoneTimer.view,
            s.fire.evacIn.level, s.fire.mainsOk.level, s.evacuate, s.fire.silenced, s.evacuate && !s.fire.silenced,
            s.alertOut, s.anyConfirmed⟩)
      else answers (.getZone tag z) .noObject .none) ∧
    (∀ g, if g < 8 then
        answers (.getGroup tag g) .ok (.group
          ⟨(s.group g).mode, leftOf (s.group g).setting, (s.group g).cfg, (s.group g).setWanted, leftOf (s.group g).retry,
            (s.group g).current.map fun c => (c.segment, c.left.left), (s.group g).staged,
            (s.zonesOf g).map fun z => (z, (s.zone z).fire), s.evacuate⟩)
      else answers (.getGroup tag g) .noObject .none) ∧
    (∀ d, if d < 32 ∧ (s.door d).cfg.point.isSome then
        let x := s.door d
        let g := s.group (s.zone (s.doorZone d)).cfg.group
        answers (.getDoor tag d) .ok (.door
          ⟨x.cfg, s.doorZone d, g.mode, g.setting.isSome, x.inUseRelease, x.inUseAllowance, x.causes, x.openedTimed,
            leftOf x.release, leftOf x.allow, leftOf x.grace, x.causes.lock, s.doorHolder d, x.contact, x.feedback,
            x.exitPressed, x.mismatch, x.forced, x.heldOpen, x.lockFault, x.jammed, s.pairOf d, s.doors.latchEvac,
            s.doors.latchStartUp, s.doors.scansA, s.doors.scansB⟩)
      else answers (.getDoor tag d) .noObject .none) ∧
    (∀ q, match (s.pair q).cfg with
      | some c => answers (.getPair tag q) .ok (.pair
          ⟨c, s.pairDoorView c.doorX (s.pair q).quietX, s.pairDoorView c.doorY (s.pair q).quietY,
            (s.pair q).slot.map fun r => (r.door, r.cause, r.wait.left), (s.pair q).breach, s.doors.latchEvac,
            s.doors.latchStartUp⟩)
      | none => answers (.getPair tag q) .noObject .none) ∧
    answers (.getCalls tag) .ok (.calls
      ⟨s.calls.queue.map Call.view, (s.calls.holderOf .one).map (·.number), (s.calls.holderOf .two).map (·.number),
        s.deferredOrder.map fun p => ⟨p, s.callClass p, s.pressTime p, s.effective p⟩, s.calls.next, s.evacuate⟩) ∧
    (∀ n, match (s.sign n).cfg with
      | some c => answers (.getSign tag n) .ok (.sign
          ⟨c, c.entries.map fun r => ((s.exit r.exit).usable, s.pathConfirmed r), (s.sign n).chosen,
            c.chosenFace (s.sign n).chosen, s.shownFace (s.sign n) c, (s.sign n).step, (s.sign n).fault,
            (s.point c.point).health, (s.point c.point).isolation.view⟩)
      | none => answers (.getSign tag n) .noObject .none) ∧
    (∀ e, if e < 12 then
        answers (.getExit tag e) .ok (.exit
          ⟨(s.exit e).cfg, (s.exit e).blocked, (s.exit e).usable,
            ((s.exit e).cfg.bind (·.zone)).map fun z => (s.zone z).fire,
            ((s.exit e).cfg.bind (·.door)).map fun d => (s.door d).jammed,
            (List.range 64).filter fun n => (s.sign n).chosenExit == some e⟩)
      else answers (.getExit tag e) .noObject .none) ∧
    (∀ g, if g < 4 then
        answers (.getLampGroup tag g) .ok (.lampGroup
          ⟨(s.lampGroup g).length, (s.lampGroup g).state, (s.lampGroup g).remaining.left, (s.lampGroup g).suspended,
            leftOf (s.lampGroup g).recharge, (s.lampGroup g).last, s.fire.mainsOk.level, (s.lampsOf g).map s.lampView⟩)
      else answers (.getLampGroup tag g) .noObject .none)

/-! ## The store and the start (R16, R168 to R172) -/

/-- From R171: RESTART is refused EVACUATING while EVACUATE is active and BUSY while a save is in progress. Otherwise
its reply OK is sent; the start is due when that reply has been sent, and not before, nothing more being sent in between
(log 15); and the start is the part's next own event (logs 5 and 15). The reports, the held frames and the frame being
received are lost, and the host hears STARTED with cause RESTART. -/
def Obligations.RestartStartsAfterItsReply : Prop :=
  ∀ (tag : Byte) (s : State),
    (s.link.free = true →
      ∃ t, exec (.restart tag) s = .next t ∧ ChangesOnly [.reports, .replies] s t ∧ s.sendsNoReport t ∧
        t.replies (.restart tag)
          (if s.evacuate then .evacuating else if s.store.saving.isSome then .busy else .ok) .none) ∧
    (∀ f, s.link.sending = some f → f = .reply ⟨0x39, tag, .ok, .none⟩ →
      ∃ t, exec .transmitFrameEnd s = .next t ∧ ChangesOnly [.startDue, .reports, .replies] s t ∧ t.link.startDue = true ∧
        t.link.sending = none) ∧
    (s.link.startDue = true → (s.pending = [] → step s = exec .start s) ∧
      ∃ t loaded standing rs, exec .start s = .next t ∧ t.link.rx = [] ∧ t.link.holder = [] ∧ t.link.replying = none ∧
        t.link.outbox = ⟨0, .started true loaded standing⟩ :: rs ∧
        ∀ r ∈ rs, r.body = .alarmEntry .new .settingsFault .none (some 0) (some settingsFaultAtStart) false)

/-- The state of the link, the store, the alarm list and part time after any start; the host hears STARTED first, and
SETTINGS_FAULT behind it when settings are EMPTY. That a save or a write of the standing-isolation area which the start
interrupts leaves its part of the store bad, so that this start itself finds it bad, and that the contents written
before stay behind the bad check value, is the model's reading (log 9). -/
def Obligations.StartTakesStoreAndAnnouncesIt : Prop :=
  ∀ s : State,
    let loaded := s.store.imageGood && s.store.saving.isNone
    let standing := s.store.areaGood && s.store.areaWrite.isNone
    ∃ t, exec .start s = .next t ∧ t.pending = s.pending ∧ t.clock = ⟨0, 0, 0, 0⟩ ∧
      t.store = ⟨s.store.image, loaded, s.store.area, standing, none, none, loaded, standing⟩ ∧
      t.alarms = ⟨if loaded then [] else [settingsFaultAtStart], false, false, false⟩ ∧
      t.link.rx = [] ∧ t.link.holder = [] ∧ t.link.replying = none ∧ t.link.heldReply = none ∧ t.link.lost = false ∧
      t.link.discards = 0 ∧ t.link.startDue = false ∧
      t.link.outbox = ⟨0, .started s.link.startDue loaded standing⟩ ::
        (if loaded then []
         else [⟨0, .alarmEntry .new .settingsFault .none (some 0) (some settingsFaultAtStart) false⟩])

/-- R63: the device-wide fire state after start, whatever the part was doing; the host hears STARTED and no EVACUATION;
and filtered EVAC_IN, taken as active at the third sample after start, makes EVACUATE active with its entry and its
report. -/
def Obligations.StartLeavesNoEvacuation : Prop :=
  ∀ s : State, ∃ t, exec .start s = .next t ∧ t.evacuate = false ∧ t.fire.silenced = false ∧ t.sounderOut = false ∧
    t.alertOut = false ∧ t.evacOut = false ∧ t.fire.evacIn = ⟨false, 0⟩ ∧ t.fire.mainsOk = ⟨true, 0⟩ ∧
    (∃ loaded standing rs, t.link.outbox = ⟨0, .started s.link.startDue loaded standing⟩ :: rs) ∧
    (∀ r ∈ t.link.outbox, ∀ a z l f, r.body ≠ .evacuation a z l f) ∧
    ∃ t1 t2 t3, exec (.lineInputSample true true) t = .next t1 ∧ exec (.lineInputSample true true) t1 = .next t2 ∧
      exec (.lineInputSample true true) t2 = .next t3 ∧ t1.evacuate = false ∧ t2.evacuate = false ∧
      t3.evacuate = true ∧ t3.fire.evacIn = ⟨true, 0⟩ ∧ ⟨t3.now, .evacuation true false true false⟩ ∈ t3.link.outbox ∧
      ∃ e ∈ t3.alarms.entries, e.kind = .evacInput ∧ e.active = true ∧ e.accepted = false

/-- The records of every block after start, by the loaded image `img` and the area: points of health UNKNOWN with no
misses, no input and no press, STANDING isolations of a good area alone; no exchange open, each scan due at once from
the lowest configured address (log 28); zones NORMAL, profiles with the loaded values and none pending, groups in their
power-on mode and STEADY, the release latch holding START_UP alone, each door with its causes and nothing yet heard from
its point (log 41), pairs at rest, no grant, no quiet timer and no mark, an empty call queue, exits not blocked, each
sign with its choice made and no fault, lamps with no fault, lamp groups IDLE, and detector records in the creation
state. A bound door's word, a bound sign's default face and the word of every other point stand as their owners write
them, where the image binds no point twice and each to its kind. -/
def Obligations.StartLeavesEveryRecordAtRest : Prop :=
  ∀ s : State,
    let img := s.store.found.loadedImage
    ∃ t, exec .start s = .next t ∧
      (∀ p < 256, (t.point p).cfg = img.points.get p ∧ (t.point p).health = .unknown ∧
        (t.point p).misses = 0 ∧ (t.point p).lastInput = none ∧ (t.point p).deferred = none ∧
        (t.point p).isolation =
          if (t.point p).cfg.configured && s.store.found.loadedArea.points.contains p then .standing else .none) ∧
      t.loops.scanA = ⟨t.nextPoint .a 0, none⟩ ∧ t.loops.scanB = ⟨t.nextPoint .b 0, none⟩ ∧
      t.clock.scanA = 0 ∧ t.clock.scanB = 0 ∧ t.doors.scansA = 0 ∧ t.doors.scansB = 0 ∧
      (∀ z < 48, t.zone z = { Zone.fresh (img.zones.get z) with
        isolation := if s.store.found.loadedArea.zones.contains z then .standing else .none }) ∧
      (∀ n < 8, t.profile n = .loaded (img.profiles.get n)) ∧
      (∀ g < 8, t.group g = .fresh (img.groups.get g)) ∧
      t.doors.latchEvac = false ∧ t.doors.latchStartUp = true ∧
      (∀ d < 32, (t.door d).cfg = img.doors.get d ∧
        ((t.door d).configured = true → t.door d =
          { cfg := img.doors.get d
            inUseRelease := (img.doors.get d).releaseTime, inUseAllowance := (img.doors.get d).allowance
            causes := ⟨(img.doors.get d).egress, (img.doors.get d).publicDoor && t.zoneMode (t.doorZone d) == .openHours,
              false, none, false⟩
            openedTimed := false, contact := none, feedback := none, exitPressed := none, mismatch := 0, forced := none
            heldOpen := false, lockFault := false, release := none, allow := none, grace := none, ignore := none
            afresh := false, unread := true })) ∧
      (∀ q < 8, t.pair q = .fresh (img.pairs.get q)) ∧
      t.guard = ⟨.fill 4 none, 1, none, .fill 256 false, .fill 32 false, .fill 32 false⟩ ∧
      t.calls = ⟨[], 1⟩ ∧
      (∀ e < 12, (t.exit e).cfg = img.exits.get e ∧ (t.exit e).blocked = false ∧
        (t.exit e).usable = t.exitUsable (t.exit e)) ∧
      (∀ n < 64, t.sign n = ⟨img.signs.get n, (img.signs.get n).bind t.chooseEntry, none, false⟩) ∧
      t.routes.sequences = img.sequences ∧ t.routes.steps = img.steps ∧
      (∀ p < 256, t.lamp p = (img.lamps.get p).map Lamp.fresh) ∧
      (∀ g < 4, t.lampGroup g = .fresh (img.lengths.get g)) ∧
      (∀ p < 256, t.detector p =
        if (t.point p).cfg.configured && isDetectorKind (t.point p).cfg.kind then
          some (.created (t.zoneProfile (t.point p).cfg.zone)) else none) ∧
      (img.Fits →
        (∀ d < 32, ∀ p < 256, (img.doors.get d).point = some p →
          (t.point p).word = .door (if (t.door d).causes = .none then .locked else .free) (t.holderOf d)) ∧
        (∀ n < 64, ∀ c, img.signs.get n = some c → c.point < 256 → (t.point c.point).word = .sign c.face) ∧
        ∀ p < 256, (t.point p).cfg.configured = true → (∀ d < 32, (img.doors.get d).point ≠ some p) →
          (∀ n < 64, ∀ c, img.signs.get n = some c → c.point ≠ p) →
          (t.point p).word = match (t.point p).cfg.kind with
            | .smoke | .heat | .manual => .alarm false
            | .presence => .empty
            | .door => .door .free .drop
            | .call => .call .idle none
            | .lamp => .lamp (t.lampMode p)
            | .sign => .sign .dark)

/-- SAVE_SETTINGS copies the working configuration as it stands, each profile at its most recent values, the pending
copy where the pending flag is set, and is replied OK at the start; SAVE_DONE makes the copy the image, ends
SETTINGS_FAULT, or leaves a bad check value and raises it, and reports the result; nothing else changes. A failed write
leaves the old contents behind its bad check value (log 9); SAVE_DONE with no save in progress changes nothing (log 8).
-/
def Obligations.SaveCopiesConfigurationAndEndsReported : Prop :=
  (∀ (tag : Byte) (s : State), s.link.free = true → s.evacuate = false → s.store.saving = none →
    ∃ t copy, exec (.saveSettings tag) s = .next t ∧ ChangesOnly [.store, .reports, .replies] s t ∧ s.sendsNoReport t ∧
      t.replies (.saveSettings tag) .ok .none ∧ t.store = { s.store with saving := some copy } ∧
      (∀ p < 256, copy.points.get p = (s.point p).cfg) ∧ (∀ z < 48, copy.zones.get z = (s.zone z).cfg) ∧
      (∀ n < 8, copy.profiles.get n = if (s.profile n).flag then (s.profile n).pending else (s.profile n).working) ∧
      (∀ g < 8, copy.groups.get g = (s.group g).cfg) ∧ (∀ d < 32, copy.doors.get d = (s.door d).cfg) ∧
      (∀ q < 8, copy.pairs.get q = (s.pair q).cfg) ∧ (∀ e < 12, copy.exits.get e = (s.exit e).cfg) ∧
      (∀ n < 64, copy.signs.get n = (s.sign n).cfg) ∧ copy.sequences = s.routes.sequences ∧
      copy.steps = s.routes.steps ∧ (∀ p < 256, copy.lamps.get p = (s.lamp p).map (·.cfg)) ∧
      ∀ g < 4, copy.lengths.get g = (s.lampGroup g).length) ∧
  (∀ (good : Bool) (copy : Image) (s : State), s.store.saving = some copy → s.roomFor 2 →
    ∃ t, exec (.saveDone good) s = .next t ∧ ChangesOnly [.alarms, .store, .reports, .replies] s t ∧
      t.store = { s.store with
        image := if good then copy else s.store.image, imageGood := good, saving := none } ∧
      t.alarms = (if good then (s.endAlarm .settingsFault .none).alarms else (s.raise .settingsFault .none).alarms) ∧
      ∃ rs, t.link.outbox = s.link.outbox ++ ⟨s.now, .saveDone good⟩ :: rs ∧ rs.length ≤ 1) ∧
  (∀ (good : Bool) (s : State), s.store.saving = none →
    ∃ t, exec (.saveDone good) s = .next t ∧ ChangesOnly [.reports, .replies] s t ∧ s.sendsNoReport t)

/-- R168: while EVACUATE is active every configuration request and SAVE_SETTINGS (and RESTART, R171) is refused
EVACUATING, before any other refusal; otherwise, while a save is in progress, BUSY, as are an ISOLATE that asks STANDING
or finds its object holding it and a RESTORE_ISOLATION of a STANDING isolation; CFG_DOOR and CFG_PAIR are refused
WRONG_STATE while the release latch holds any cause. Every other request is served during a save: none is replied BUSY
that would not be without the save. -/
def Obligations.EvacuationAndSaveRefuseConfiguration : Prop :=
  ∀ (i : Instr) (code : Byte) (s : State), requestCode i = some code → s.link.free = true →
    let refused := fun (st : Status) =>
      ∃ t, exec i s = .next t ∧ ChangesOnly [.reports, .replies] s t ∧ s.sendsNoReport t ∧ t.replies i st .none
    let configures := (0x10 ≤ code.toNat ∧ code.toNat ≤ 0x1B) ∨ code = 0x39
    let standing := ∃ tag target, s.noTarget target = false ∧
      (i = .isolate tag target .standing ∨
        s.isolationOf target = .standing ∧ ((∃ ask, i = .isolate tag target ask) ∨ i = .restoreIsolation tag target))
    (configures → s.evacuate = true → refused .evacuating) ∧
      (configures → s.evacuate = false → s.store.saving.isSome = true → refused .busy) ∧
      ((∃ tag d c, i = .cfgDoor tag d c) ∨ (∃ tag q c, i = .cfgPair tag q c) → s.evacuate = false →
        s.store.saving = none → s.latched = true → refused .wrongState) ∧
      (standing → s.store.saving.isSome = true → refused .busy) ∧
      (¬ configures → ¬ standing → ∀ t b, exec i s = .next t → t.replies i .busy b →
        ∃ u b', exec i { s with store.saving := none } = .next u ∧ u.replies i .busy b')

/-! ## Field loops and the point table (01) -/

/-- CFG_POINT that makes a record configured: the record takes the configuration with health UNKNOWN, no miss, no input,
no isolation and no deferred press; its owner writes its first word; a SMOKE or HEAT point receives a detector record in
the creation state, judged by its zone's present profile. CFG_POINT that unconfigures a point which nothing keeps: the
record is an unused one (kind SMOKE, zone 0, empty word: log 25), its detector record is gone, a press it deferred is
reported REMOVED (log 39), its isolation ends, reported, and, if STANDING, with the area written before the reply, and
no ACTIVE FAULT entry is left for it. No other record changes. The refusals of R9 and R10, each before the next: a
number that is no point, a value that is none of its range, a kind at its limit, and a binding, a call record, an alarm
or a latched operation that keeps the point; a request that changes nothing is replied OK. -/
def Obligations.CfgPointMakesAndUnmakesRecords : Prop :=
  ∀ (tag : Byte) (p : Nat) (s : State), s.link.free = true → s.cfgRefusal = none →
    let old := (s.point p).cfg
    let others := fun (t : State) =>
      (∀ q, q ≠ p → (t.point q).cfg = (s.point q).cfg ∧ (t.point q).health = (s.point q).health ∧
        (t.point q).isolation = (s.point q).isolation ∧ (t.point q).lastInput = (s.point q).lastInput) ∧
      (∀ q, q ≠ p → t.detector q = s.detector q)
    let limit := fun (k : Kind) => match k with
      | .door => 32
      | .call => 40
      | .lamp => 96
      | .sign => 64
      | .smoke | .heat | .manual | .presence => 254
    let bound := (∃ d < 32, (s.door d).cfg.point = some p) ∨ (s.lamp p).isSome = true ∨
      (∃ n < 64, ∃ c, (s.sign n).cfg = some c ∧ c.point = p) ∨ ∃ r ∈ s.calls.queue, r.point = p
    let burns := s.inAlarm p = true ∨ s.isLatched p = true
    let answers := fun (x : Option PointSetting) (st : Status) =>
      ∃ t, exec (.cfgPoint tag p x) s = .next t ∧ ChangesOnly [.reports, .replies] s t ∧ s.sendsNoReport t ∧
        t.replies (.cfgPoint tag p x) st .none
    (isPoint p = true → ∀ (x : PointSetting) (k : Kind), old.configured = false → x.kind = some k → x.zone ≤ 47 →
      (k = .call → x.cls.isSome = true) → s.countKind k < limit k →
      ∃ t, exec (.cfgPoint tag p (some x)) s = .next t ∧ others t ∧
        ChangesOnly [.points, .presses, .words, .scanners, .detectors, .calls, .reports, .replies] s t ∧
        t.replies (.cfgPoint tag p (some x)) .ok .none ∧
        (t.point p).cfg = ⟨true, k, x.zone, if k = .call then x.cls else none⟩ ∧ (t.point p).health = .unknown ∧
        (t.point p).misses = 0 ∧ (t.point p).isolation = .none ∧ (t.point p).lastInput = none ∧
        (t.point p).deferred = none ∧
        (k ≠ .lamp → k ≠ .call → (t.point p).word = firstWord k) ∧
        (k = .lamp → (t.point p).word = .lamp (t.lampMode p)) ∧
        (t.detector p = if isDetectorKind k then some (.created (s.zoneProfile x.zone)) else s.detector p) ∧
        (k ≠ .call → t.calls = s.calls ∧ s.sendsNoReport t)) ∧
    (isPoint p = true → old.configured = true → ¬ bound → ¬ burns → s.alarms.Sound → s.roomFor 48 →
      ∃ t, exec (.cfgPoint tag p none) s = .next t ∧ others t ∧
        ChangesOnly [.points, .presses, .words, .scanners, .detectors, .marks, .alarms, .store, .reports, .replies] s t ∧
        t.point p = .fresh .unused .empty ∧ t.detector p = none ∧ t.guard.presence.get p = false ∧
        (∀ e ∈ t.alarms.entries, kindClass e.kind = .fault → e.obj = .point p → e.active = false) ∧
        ((s.point p).isolation ≠ .none → ⟨s.now, .isolation (.point p) .none⟩ ∈ t.link.outbox) ∧
        (∀ time, (s.point p).deferred = some time →
          ⟨s.now, .callState none p (old.cls.getD .help) .removed none time 0 false .ended⟩ ∈ t.link.outbox) ∧
        ((s.point p).isolation ≠ .standing → t.replies (.cfgPoint tag p none) .ok .none ∧ t.store = s.store) ∧
        ((s.point p).isolation = .standing → t.link.heldReply = some ⟨0x10, tag, .ok, .none⟩ ∧
          t.link.replying = none ∧ t.store = { s.store with areaWrite := some t.standing })) ∧
    (isPoint p = false → ∀ x, answers x .noObject) ∧
    (isPoint p = true →
      (∀ x : PointSetting, x.kind = none ∨ 47 < x.zone ∨ (x.kind = some .call ∧ x.cls = none) →
        answers (some x) .badValue) ∧
      (∀ (x : PointSetting) (k : Kind), x.kind = some k → x.zone ≤ 47 → (k = .call → x.cls.isSome = true) →
        (s.isKind p k = false → limit k ≤ s.countKind k → answers (some x) .badValue) ∧
        (s.isKind p k = true ∨ s.countKind k < limit k → old.configured = true →
          (k ≠ old.kind → bound ∨ burns → answers (some x) .wrongState) ∧
          (x.zone ≠ old.zone → burns → answers (some x) .wrongState)) ∧
        (old = ⟨true, k, x.zone, if k = .call then x.cls else none⟩ → answers (some x) .ok)) ∧
      (old.configured = true → bound ∨ burns → answers none .wrongState) ∧
      (old = .unused → answers none .ok))

/-- CFG_ZONE: the five values are written at once and the reply is OK; with the zone in its group, in NORMAL or with its
coincidence and investigation as they were, nothing else of the part moves; with another group, in NORMAL and with
neither group SETTING, the zone takes that group's mode. The refusals of R41, each before the next: a number that is no
zone, a group or profile outside 0–7, another group, coincidence or investigation outside NORMAL, and another group
while the old or the new one is SETTING. CFG_POINT of a configured point: a change of zone ends its isolation, reported
first of the event (log 7), and keeps its health, its misses, its last input and its word, a bound door taking SCHEDULE
by the new zone and a lamp its mode; a change of class alone changes nothing else; a new kind gives the record anew as
for a point made configured, discards the detector, the press and the mark of the kind it leaves, and leaves no ACTIVE
FAULT entry. The reply is OK, after the store write where a STANDING isolation ends. -/
def Obligations.CfgZoneAndCfgPointChangeRecords : Prop :=
  (∀ (tag : Byte) (z : Nat) (c : ZoneSetting) (s : State), s.link.free = true → s.cfgRefusal = none → z < 48 →
    c.group ≤ 7 → c.day ≤ 7 → c.night ≤ 7 →
    (c.group = (s.zone z).cfg.group →
      (s.zone z).fire = .normal ∨ (c.coincidence = (s.zone z).cfg.coincidence ∧
        c.investigation = (s.zone z).cfg.investigation) →
      ∃ t, exec (.cfgZone tag z c) s = .next t ∧ ChangesOnly [.zones, .reports, .replies] s t ∧ s.sendsNoReport t ∧
        t.replies (.cfgZone tag z c) .ok .none ∧ t.zone z = { s.zone z with cfg := c } ∧
        ∀ y, y ≠ z → t.zone y = s.zone y) ∧
    (c.group ≠ (s.zone z).cfg.group → (s.zone z).fire = .normal → (s.group c.group).setting = none →
      (s.group (s.zone z).cfg.group).setting = none →
      ∃ t, exec (.cfgZone tag z c) s = .next t ∧
        ChangesOnly [.words, .zones, .doors, .pairs, .exits, .signs, .reports, .replies] s t ∧
        t.replies (.cfgZone tag z c) .ok .none ∧ t.zone z = { s.zone z with cfg := c } ∧
        t.zoneMode z = (s.group c.group).mode ∧ ∀ y, y ≠ z → t.zone y = s.zone y)) ∧
  (∀ (tag : Byte) (z : Nat) (c : ZoneSetting) (s : State), s.link.free = true → s.cfgRefusal = none →
    let old := (s.zone z).cfg
    let refused := fun (st : Status) =>
      ∃ t, exec (.cfgZone tag z c) s = .next t ∧ ChangesOnly [.reports, .replies] s t ∧ s.sendsNoReport t ∧
        t.replies (.cfgZone tag z c) st .none
    (48 ≤ z → refused .noObject) ∧
    (z < 48 → 7 < c.group ∨ 7 < c.day ∨ 7 < c.night → refused .badValue) ∧
    (z < 48 → c.group ≤ 7 → c.day ≤ 7 → c.night ≤ 7 →
      ((s.zone z).fire ≠ .normal →
        c.group ≠ old.group ∨ c.coincidence ≠ old.coincidence ∨ c.investigation ≠ old.investigation →
        refused .wrongState) ∧
      (c.group ≠ old.group → (s.group c.group).setting.isSome = true ∨ (s.group old.group).setting.isSome = true →
        refused .wrongState))) ∧
  (∀ (tag : Byte) (p : Nat) (x : PointSetting) (k : Kind) (s : State), s.link.free = true → s.cfgRefusal = none →
    isPoint p = true → (s.point p).cfg.configured = true → x.kind = some k → x.zone ≤ 47 →
    (k = .call → x.cls.isSome = true) → s.inAlarm p = false → s.isLatched p = false → s.alarms.Sound → s.roomFor 48 →
    let i := Instr.cfgPoint tag p (some x)
    let new : PointCfg := ⟨true, k, x.zone, if k = .call then x.cls else none⟩
    let others := fun (t : State) =>
      (∀ q, q ≠ p → (t.point q).cfg = (s.point q).cfg ∧ (t.point q).health = (s.point q).health ∧
        (t.point q).isolation = (s.point q).isolation ∧ (t.point q).lastInput = (s.point q).lastInput) ∧
      (∀ q, q ≠ p → t.detector q = s.detector q)
    let replied := fun (t : State) =>
      ((s.point p).isolation ≠ .standing → t.replies i .ok .none ∧ t.store = s.store) ∧
        ((s.point p).isolation = .standing → t.link.heldReply = some ⟨0x10, tag, .ok, .none⟩ ∧
          t.store = { s.store with areaWrite := some t.standing })
    (k = (s.point p).cfg.kind → x.zone ≠ (s.point p).cfg.zone →
      ∃ t, exec i s = .next t ∧ others t ∧ replied t ∧ (t.point p).cfg = new ∧ (t.point p).isolation = .none ∧
        (t.point p).health = (s.point p).health ∧ (t.point p).misses = (s.point p).misses ∧
        (t.point p).lastInput = (s.point p).lastInput ∧
        ((s.point p).isolation ≠ .none →
          ∃ rs, t.link.outbox = s.link.outbox ++ ⟨s.now, .isolation (.point p) .none⟩ :: rs) ∧
        (s.effective p = t.effective p → t.detector p = s.detector p) ∧
        (k ≠ .call → t.calls = s.calls ∧ ∀ q, (t.point q).deferred = (s.point q).deferred) ∧
        ((k ≠ .door ∧ k ≠ .lamp ∧ k ≠ .call) → (∀ d < 32, (s.door d).cfg.point ≠ some p) →
          (t.point p).word = (s.point p).word) ∧
        (k = .lamp → (t.point p).word = .lamp (t.lampMode p)) ∧
        (∀ d < 32, s.doorOf p = some d → (t.door d).causes.schedule =
          ((s.door d).cfg.publicDoor && t.zoneMode x.zone == .openHours))) ∧
    (k = (s.point p).cfg.kind → x.zone = (s.point p).cfg.zone → k = .call → x.cls ≠ (s.point p).cfg.cls →
      ∃ t, exec i s = .next t ∧ others t ∧ t.replies i .ok .none ∧ (t.point p).cfg = new ∧
        (t.point p).health = (s.point p).health ∧ (t.point p).misses = (s.point p).misses ∧
        (t.point p).isolation = (s.point p).isolation ∧ (t.point p).lastInput = (s.point p).lastInput ∧
        ((∀ q, (s.point q).deferred = none) → s.ChannelsUsed →
          t.calls = s.calls ∧ s.sendsNoReport t ∧ (t.point p).word = (s.point p).word)) ∧
    (k ≠ (s.point p).cfg.kind → s.countKind k < kindLimit k → s.doorOf p = none → s.lamp p = none → s.signOf p = none →
      (∀ r ∈ s.calls.queue, r.point ≠ p) →
      ∃ t, exec i s = .next t ∧ others t ∧ replied t ∧ (t.point p).cfg = new ∧ (t.point p).health = .unknown ∧
        (t.point p).misses = 0 ∧ (t.point p).isolation = .none ∧ (t.point p).lastInput = none ∧
        (t.point p).deferred = none ∧ t.guard.presence.get p = false ∧
        ((s.point p).isolation ≠ .none → ⟨s.now, .isolation (.point p) .none⟩ ∈ t.link.outbox) ∧
        (k ≠ .lamp → k ≠ .call → (t.point p).word = firstWord k) ∧
        (k = .lamp → (t.point p).word = .lamp (t.lampMode p)) ∧
        t.detector p = (if k = .smoke ∨ k = .heat then some (.created (s.zoneProfile x.zone)) else none) ∧
        (k ≠ .call → t.calls = s.calls) ∧
        ∀ a ∈ t.alarms.entries, kindClass a.kind = .fault → a.obj = .point p → a.active = false))

/-- SCAN_START with no exchange open: the first configured address of the loop is polled, with its output word as it
then stands, a step of a sign's sequence taken first (log 46); the next scan is 0.5 s away. On a loop with no configured
point the scan ends at once. With an exchange open nothing starts: R1 says that this cannot arise, and the command then
changes nothing by the model's choice (log 4). -/
def Obligations.ScanPollsLowestAddressFirst : Prop :=
  ∀ (l : LoopId) (s : State),
    ((s.scanner l).exchange = none →
      ∃ t, exec (.scanStart l) s = .next t ∧
        ChangesOnly [.clock, .words, .scanners, .profiles, .alarms, .doors, .latch, .scanCounts, .pairs, .exits, .signs,
          .reports, .replies] s t ∧
        t.clock = (match l with
          | .a => { s.clock with scanA := 10 }
          | .b => { s.clock with scanB := 10 }) ∧
        t.scanner l = (match s.nextPoint l 0 with
          | some p => ⟨s.nextPoint l p, some ⟨p, (t.point p).word⟩⟩
          | none => ⟨none, none⟩) ∧
        (∀ m, m ≠ l → t.scanner m = s.scanner m) ∧
        (s.nextPoint l 0 ≠ none → t.alarms = s.alarms ∧ t.doors = s.doors ∧ t.detection = s.detection)) ∧
    ((s.scanner l).exchange.isSome = true →
      ∃ t, exec (.scanStart l) s = .next t ∧ ChangesOnly [.reports, .replies] s t ∧ s.sendsNoReport t)

/-- From R4: what each outcome of an exchange makes of health and of the consecutive misses of the point polled; from
R3, of its last input; from R1, the scanner goes on to the next configured address. A change of health is reported, and
no other health is; no other point's health moves. The input of a good reply is kept and delivered before its outcome is
applied to health and misses (R3): the report of the health follows those of the delivery. At a miss or an answer of
another kind it is the first report of the event (log 7). -/
def Obligations.ExchangeMovesHealthAndMisses : Prop :=
  ∀ (l : LoopId) (e : Exchange) (s : State), (s.scanner l).exchange = some e → e.point < 256 →
    (s.point e.point).cfg.configured = true →
    let moved := fun (t : State) (h : Health) (m : Nat) (i : Option Input) =>
      (t.point e.point).health = h ∧ (t.point e.point).misses = m ∧ (t.point e.point).lastInput = i ∧
        (∀ q, q ≠ e.point → (t.point q).health = (s.point q).health ∧ (t.point q).misses = (s.point q).misses ∧
          (t.point q).lastInput = (s.point q).lastInput) ∧
        (∀ q, (t.point q).cfg = (s.point q).cfg ∧ (t.point q).isolation = (s.point q).isolation) ∧
        (t.scanner l).exchange.map (·.point) = s.nextPoint l e.point ∧
        (h = (s.point e.point).health → ∀ r ∈ t.link.outbox, ∀ p k, r.body = .pointState p k → r ∈ s.link.outbox)
    let reported := fun (u t : State) (h : Health) => h ≠ (s.point e.point).health → u.roomFor 1 →
      ∃ rs, t.link.outbox = u.link.outbox ++ ⟨s.now, .pointState e.point h⟩ :: rs
    (∀ i : Input, i.kind = (s.point e.point).cfg.kind →
      let kept := s.putPoint e.point { s.point e.point with lastInput := some i }
      ∃ t, exec (.pointReply l (.input i)) s = .next t ∧ moved t .normal 0 (some i) ∧
        reported (kept.deliver e.point i) t .normal) ∧
    (∀ a : Answer, (∀ i, a = .input i → i.kind ≠ (s.point e.point).cfg.kind) →
      ∃ t, exec (.pointReply l a) s = .next t ∧ moved t .wrongKind 0 (s.point e.point).lastInput ∧
        reported s t .wrongKind) ∧
    ((s.point e.point).misses < 2 →
      ∃ t, exec (.replyWindowExpiry l) s = .next t ∧
        moved t (s.point e.point).health ((s.point e.point).misses + 1) (s.point e.point).lastInput) ∧
    (2 ≤ (s.point e.point).misses →
      ∃ t, exec (.replyWindowExpiry l) s = .next t ∧ moved t .missing 3 (s.point e.point).lastInput ∧
        reported s t .missing)

/-- ISOLATE of a point or a zone with TEMPORARY minutes: the isolation starts with its full minutes, clamped to 1–720,
and the reply carries the status alone (log 17); ISOLATION is the first report (log 7); no other object's isolation
moves. The reply is ready at once; where the object held STANDING the area is written without its number, and the reply
waits for the write. The point, or every SMOKE, HEAT and MANUAL point of the zone, is then under effective isolation;
for each that was not, no ACTIVE FAULT or SECURITY entry whose object is the point itself is left, and a detector's
stream is broken and its run ended. An ISOLATE of a zone moves no other detector and, but for the zone, the alarm list
and the store, nothing else. RESTORE_ISOLATION, and the expiry of a TEMPORARY isolation, leave the object with no
isolation and report its end; a STANDING one is taken from the area, and its reply waits for the write. -/
def Obligations.IsolationBeginsAndEnds : Prop :=
  (∀ (tag : Byte) (target : Target) (m : Nat) (s : State), s.link.free = true → s.noTarget target = false →
    s.burning target = false → (s.isolationOf target = .standing → s.store.saving = none) → s.alarms.Sound →
    s.roomFor 1 →
    let i := Instr.isolate tag target (.temporary m)
    let st : Status := if m < 1 ∨ 720 < m then .okClamped else .ok
    let fires := fun (z q : Nat) => isPoint q = true ∧ (s.point q).cfg.configured = true ∧ (s.point q).cfg.zone = z ∧
      ((s.point q).cfg.kind = .smoke ∨ (s.point q).cfg.kind = .heat ∨ (s.point q).cfg.kind = .manual)
    let comes := fun (q : Nat) => target = .point q ∨ ∃ z, target = .zone z ∧ fires z q
    ∃ t, exec i s = .next t ∧
      (∀ p, target = .point p →
        ChangesOnly [.points, .presses, .words, .detectors, .alarms, .doors, .pairs, .marks, .calls, .signs, .lamps,
          .store, .reports, .replies] s t) ∧
      (∀ z, target = .zone z → ChangesOnly [.detectors, .zones, .alarms, .store, .reports, .replies] s t ∧
        ∀ q, ¬ fires z q → t.detector q = s.detector q) ∧
      (s.isolationOf target ≠ .standing → t.replies i st .none ∧ t.store = s.store) ∧
      (s.isolationOf target = .standing → t.link.replying = none ∧ t.link.heldReply = some ⟨0x20, tag, st, .none⟩ ∧
        t.store = { s.store with areaWrite := some t.standing } ∧
        (∀ p, target = .point p → p ∉ t.standing.points) ∧ ∀ z, target = .zone z → z ∉ t.standing.zones) ∧
      t.isolationOf target = .temporary ⟨clamp 1 720 m, 0⟩ ∧
      (∀ other, other ≠ target → t.isolationOf other = s.isolationOf other) ∧
      (∀ q, (t.point q).cfg = (s.point q).cfg ∧ (t.point q).health = (s.point q).health) ∧
      (∀ q, comes q → t.effective q = true ∧
        (s.effective q = false →
          (∀ e ∈ t.alarms.entries, e.obj = .point q → e.active = true → kindClass e.kind = .fire) ∧
          ((s.point q).cfg.kind = .smoke ∨ (s.point q).cfg.kind = .heat → ∀ d, s.detector q = some d →
            t.detector q = some { d with
              history := [], drift := 0, window := 0, w := none, dirtyDue := false
              state := if d.state = .alarm then .alarm else .quiet
              k := if d.state = .preAlarm ∨ d.state = .confirming then 0 else d.k }))) ∧
      ∃ rs, t.link.outbox = s.link.outbox ++ ⟨s.now, .isolation target (.temporary (clamp 1 720 m))⟩ :: rs) ∧
  (∀ (target : Target) (s : State), s.noTarget target = false → s.roomFor 1 →
    let ended := fun (t : State) =>
      t.isolationOf target = .none ∧
        (∀ other, other ≠ target → t.isolationOf other = s.isolationOf other) ∧
        ∃ rs, t.link.outbox = s.link.outbox ++ ⟨s.now, .isolation target .none⟩ :: rs
    (∀ tag, s.link.free = true → s.isolationOf target ≠ .none → s.isolationOf target ≠ .standing →
      ∃ t, exec (.restoreIsolation tag target) s = .next t ∧ ended t ∧ t.store = s.store ∧
        t.replies (.restoreIsolation tag target) .ok .none) ∧
    (∀ tag, s.link.free = true → s.isolationOf target = .standing → s.store.saving = none →
      ∃ t, exec (.restoreIsolation tag target) s = .next t ∧ ended t ∧ t.link.heldReply = some ⟨0x21, tag, .ok, .none⟩ ∧
        t.store = { s.store with areaWrite := some t.standing }) ∧
    (∀ p m, target = .point p → (s.point p).isolation = .temporary m →
      ∃ t, exec (.pointIsolationExpiry p) s = .next t ∧ ended t ∧ t.store = s.store) ∧
    (∀ z m, target = .zone z → (s.zone z).isolation = .temporary m →
      ∃ t, exec (.zoneIsolationExpiry z) s = .next t ∧ ended t ∧ t.store = s.store))

/-- A STANDING isolation, of a point or of a zone, is in force at once; the area is written as it then stands, and the
reply waits for the write. When the write ends, the area holds what was written, with a good check value, and the reply
that waited becomes the one the CLP is sending. -/
def Obligations.StandingIsolationWaitsForItsWrite : Prop :=
  (∀ (tag : Byte) (target : Target) (s : State), s.link.free = true → s.noTarget target = false →
    s.burning target = false → s.store.saving = none →
    ∃ t, exec (.isolate tag target .standing) s = .next t ∧
      ChangesOnly [.points, .presses, .words, .detectors, .zones, .alarms, .doors, .pairs, .marks, .calls, .signs, .lamps,
        .store, .reports, .replies] s t ∧
      t.isolationOf target = .standing ∧ t.link.replying = none ∧
      t.link.heldReply = some ⟨0x20, tag, .ok, .none⟩ ∧ t.store = { s.store with areaWrite := some t.standing } ∧
      (∀ q, target = .point q → q ∈ t.standing.points) ∧ (∀ z, target = .zone z → z ∈ t.standing.zones)) ∧
  (∀ (a : Area) (r : Reply) (s : State), s.store.areaWrite = some a → s.link.heldReply = some r → s.link.reply = none →
    (∀ r', s.link.sending ≠ some (.reply r')) →
    ∃ t, exec .standingAreaWriteDone s = .next t ∧ ChangesOnly [.store, .reports, .replies] s t ∧ s.sendsNoReport t ∧
      t.store = { s.store with area := a, areaGood := true, areaWrite := none } ∧ t.link.heldReply = none ∧
      t.link.replying = some r)

/-! ## Detection (02) -/

/-- From R22, R23 and R24: the history keeps the three newest readings, newest first, and the filtered value is the
median of three, the lower of two, or the single reading. The reference of a SMOKE detector is set within 256 to 1152,
steps at the 120th sample and at no other, by one sixteenth towards the filtered value, in QUIET and within 128 only,
and stays within its limits; dirty follows it with a hysteresis of four counts. -/
def Obligations.ReferenceSetsStepsAndStaysInRange : Prop :=
  (∀ (r : Nat) (h : List Nat), h.length ≤ 3 →
    let h' := enterReading r h
    h'.length = min 3 (h.length + 1) ∧ h' = (r :: h).take 3 ∧
      (∀ a, h' = [a] → filtered h' = a) ∧ (∀ a b, h' = [a, b] → filtered h' = min a b) ∧
      (∀ a b c, h' = [a, b, c] → filtered h' ∈ [a, b, c] ∧ 2 ≤ [a, b, c].countP (· ≤ filtered h') ∧
        2 ≤ [a, b, c].countP (filtered h' ≤ ·))) ∧
  (∀ (d : Detector) (f : Nat), d.drift < 120 → (∀ r, d.ref = some r → 256 ≤ r ∧ r ≤ 1152) →
    ∃ ref, (d.stage2 f).ref = some ref ∧ 256 ≤ ref ∧ ref ≤ 1152 ∧
      (d.stage2 f).drift = (if d.drift = 119 then 0 else d.drift + 1) ∧
      (d.ref = none → d.drift ≠ 119 → ref = if f * 16 < 256 then 256 else if 1152 < f * 16 then 1152 else f * 16) ∧
      (∀ r, d.ref = some r → d.drift ≠ 119 → ref = r) ∧
      (∀ r, d.ref = some r → d.drift = 119 → d.state = .quiet → f * 16 ≤ r + 128 → r ≤ f * 16 + 128 →
        (r < f * 16 → ref = min 1152 (r + 1)) ∧ (f * 16 < r → ref = max 256 (r - 1)) ∧ (r = f * 16 → ref = r)) ∧
      (∀ r, d.ref = some r → d.state ≠ .quiet ∨ r + 128 < f * 16 ∨ f * 16 + 128 < r → ref = r) ∧
      ((d.stage2 f).dirty = if ref = 1152 then true else if ref ≤ 1088 then false else d.dirty))

/-- A sample of a SMOKE or HEAT point: the history, the filtered and the compensated value, the profile it is judged by,
and the state and confirmation count it leaves, by the conditions of R31 as R32 and R33 apply them. For SMOKE the
reference, the drift counter and the dirty flag are those of the second stage for the filtered value (R23, R24; the
statement of the reference says what that stage does), and a dirty flag that rises, or is yes at the first sample after
an isolation (log 18), raises DETECTOR_DIRTY, one that falls ends it. For HEAT the condition is the fixed threshold, or
the rise against `w` as it stood before the sample, and `w` is captured at the 60th sample after the rise has been
computed. -/
def Obligations.SamplesMoveDetectors : Prop :=
  ∀ (l : LoopId) (e : Exchange) (r : Byte) (d : Detector) (s : State), (s.scanner l).exchange = some e → e.point < 256 →
    (s.point e.point).cfg.configured = true → s.effective e.point = false → s.detector e.point = some d →
    let h := enterReading r.toNat d.history
    let taken := fun (t : State) (n : Detector) => t.detector e.point = some n ∧
      (∀ q, q ≠ e.point → t.detector q = s.detector q) ∧ n.history = h ∧ n.lastF = some (filtered h) ∧
      n.dirtyDue = false ∧
      n.profile = if d.state = .quiet then s.zoneProfile (s.point e.point).cfg.zone else d.profile
    ((s.point e.point).cfg.kind = .smoke →
      ∃ t n ref, exec (.pointReply l (.input (.smoke r))) s = .next t ∧ taken t n ∧ n.ref = some ref ∧
        let c := min 255 (filtered h + 32 - ref / 16)
        let v := (s.profile n.profile).working
        let met := v.a ≤ c
        n.lastC = some c ∧ n.ref = (d.stage2 (filtered h)).ref ∧ n.drift = (d.stage2 (filtered h)).drift ∧
        n.dirty = (d.stage2 (filtered h)).dirty ∧ n.w = d.w ∧ n.window = d.window ∧
        (n.dirty = true → d.dirty = false ∨ d.dirtyDue = true → s.alarms.otherCount < 40 →
          ∃ a ∈ t.alarms.entries, a.kind = .detectorDirty ∧ a.obj = .point e.point ∧ a.active = true ∧
            a.accepted = false ∧ a.last = s.now) ∧
        (n.dirty = false → d.dirty = true → s.alarms.Sound →
          ∀ a ∈ t.alarms.entries, a.kind = .detectorDirty → a.obj = .point e.point → a.active = false) ∧
        (n.state, n.k) = match d.state with
          | .alarm => (.alarm, d.k)
          | .confirming =>
            if met then (if v.k ≤ d.k + 1 then .alarm else .confirming, d.k + 1)
            else if v.p ≤ c then (.preAlarm, 0) else (.quiet, 0)
          | .quiet =>
            if met then (if v.k ≤ 1 then .alarm else .confirming, 1)
            else if v.p ≤ c then (.preAlarm, 0) else (.quiet, 0)
          | .preAlarm =>
            if met then (if v.k ≤ 1 then .alarm else .confirming, 1)
            else if c < v.p - 4 then (.quiet, 0) else (.preAlarm, 0)) ∧
    ((s.point e.point).cfg.kind = .heat → d.window < 60 →
      ∃ t n, exec (.pointReply l (.input (.heat r))) s = .next t ∧ taken t n ∧
        let c := filtered h
        let v := (s.profile n.profile).working
        let met := v.h ≤ c ∨ 0 < v.r ∧ ∃ w, d.w = some w ∧ w + v.r ≤ c
        n.lastC = some c ∧ n.ref = d.ref ∧ n.drift = d.drift ∧ n.dirty = d.dirty ∧
        (n.window, n.w) = (if d.window = 59 then (0, some c) else (d.window + 1, d.w)) ∧
        (d.state = .alarm → n.state = .alarm ∧ n.k = d.k) ∧
        (d.state = .quiet → met → n.state = (if v.k ≤ 1 then .alarm else .confirming) ∧ n.k = 1) ∧
        (d.state = .confirming → met → n.state = (if v.k ≤ d.k + 1 then .alarm else .confirming) ∧ n.k = d.k + 1) ∧
        (d.state = .quiet ∨ d.state = .confirming → ¬ met → n.state = .quiet ∧ n.k = 0))

/-- The two counted events of a detector (the model's choice, log 4): at a drift counter of 119 the reference has its
chance to step towards the last filtered value; at a window counter of 59 `w` takes the last compensated value. Nothing
else of the part moves, but for the dirty entry. The breaks of a detector's stream (R34, R35): a third miss or an answer
of another kind that changes the point's health, and the point's coming under effective isolation, empty the history,
clear the drift and window counters and `w`, and return PRE_ALARM and CONFIRMING to QUIET with no count, keeping the
reference, the dirty flag, the profile and ALARM; a reply of an isolated point is no sample. -/
def Obligations.CountedEventsAndStreamBreaks : Prop :=
  (∀ (p f ref : Nat) (d : Detector) (s : State), p < 256 → s.detector p = some d → d.drift = 119 → d.lastF = some f →
    d.ref = some ref →
    ∃ t, exec (.driftChance p) s = .next t ∧ ChangesOnly [.detectors, .alarms, .reports, .replies] s t ∧
      t.detector p = some { d with
        ref := some (stepRef d.state f ref), drift := 0, dirty := dirtyAfter d.dirty (stepRef d.state f ref) } ∧
      (∀ q, q ≠ p → t.detector q = s.detector q) ∧
      (dirtyAfter d.dirty (stepRef d.state f ref) = d.dirty → t.alarms = s.alarms)) ∧
  (∀ (p c : Nat) (d : Detector) (s : State), p < 256 → s.detector p = some d → d.window = 59 → d.lastC = some c →
    ∃ t, exec (.heatWindowCapture p) s = .next t ∧ ChangesOnly [.detectors, .reports, .replies] s t ∧
      s.sendsNoReport t ∧ t.detector p = some { d with window := 0, w := some c } ∧
      ∀ q, q ≠ p → t.detector q = s.detector q) ∧
  (∀ (d : Detector) (p : Nat) (s : State), p < 256 → s.detector p = some d → (s.point p).cfg.configured = true →
    (s.point p).cfg.kind = .smoke ∨ (s.point p).cfg.kind = .heat →
    let others := fun (t : State) => ∀ q, q ≠ p → t.detector q = s.detector q
    let broken : Detector := { d with
      history := [], drift := 0, window := 0, w := none
      state := if d.state = .alarm then .alarm else .quiet
      k := if d.state = .preAlarm ∨ d.state = .confirming then 0 else d.k }
    (∀ l e, (s.scanner l).exchange = some e → e.point = p →
      ((s.point p).health ≠ .missing → 2 ≤ (s.point p).misses →
        ∃ t, exec (.replyWindowExpiry l) s = .next t ∧ t.detector p = some broken ∧ others t) ∧
      ((s.point p).health ≠ .wrongKind → ∀ a : Answer, (∀ i, a = .input i → i.kind ≠ (s.point p).cfg.kind) →
        ∃ t, exec (.pointReply l a) s = .next t ∧ t.detector p = some broken ∧ others t) ∧
      (s.effective p = true → ∀ i : Input, i.kind = (s.point p).cfg.kind →
        ∃ t, exec (.pointReply l (.input i)) s = .next t ∧ t.detector p = some d ∧ others t)) ∧
    (s.link.free = true → isPoint p = true → s.effective p = false → d.state ≠ .alarm → ∀ tag m,
      ∃ t, exec (.isolate tag (.point p) (.temporary m)) s = .next t ∧
        t.detector p = some { broken with dirtyDue := false } ∧ others t))

/-- From R28: CFG_PROFILE refuses as its table gives, brings the five values into range in the order the rule lays down,
writes them to the pending copy alone and returns them. From R2 and R29: at the end of a scan of either loop, which is
the end of the exchange with its highest configured point, or the start on a loop with no configured point, every
pending profile transfers that no detector in PRE_ALARM or CONFIRMING is judged by, the exchange taken first, and is
reported where the report queue has not filled; no other profile moves, and at no other end of an exchange any. -/
def Obligations.ProfilesChangeAtEndOfScan : Prop :=
  (∀ (tag : Byte) (n : Nat) (v : ProfileValues) (s : State), s.link.free = true →
    ∃ t, exec (.cfgProfile tag n v) s = .next t ∧ s.sendsNoReport t ∧
      if s.evacuate then t.replies (.cfgProfile tag n v) .evacuating .none ∧ ChangesOnly [.reports, .replies] s t
      else if s.store.saving.isSome then t.replies (.cfgProfile tag n v) .busy .none ∧ ChangesOnly [.reports, .replies] s t
      else if 7 < n then t.replies (.cfgProfile tag n v) .noObject .none ∧ ChangesOnly [.reports, .replies] s t
      else
        ∃ w : ProfileValues, t.replies (.cfgProfile tag n v) (if w = v then .ok else .okClamped) (.profile w) ∧
          ChangesOnly [.profiles, .reports, .replies] s t ∧
          t.profile n = { s.profile n with pending := w, flag := true } ∧ (∀ m, m ≠ n → t.profile m = s.profile m) ∧
          w.k = clamp 1 20 v.k ∧ w.h = clamp 40 255 v.h ∧ w.r = clamp 0 40 v.r ∧
          (v.p < 255 → w.p = clamp 33 255 v.p ∧ w.a = max (clamp 34 255 v.a) (w.p + 1)) ∧
          (255 ≤ v.p → w.p = 254 ∧ w.a = 255) ∧ 33 ≤ w.p ∧ w.p ≤ 254 ∧ w.p + 1 ≤ w.a ∧ w.a ≤ 255) ∧
  (∀ (l : LoopId) (s : State),
    let held := fun (u : State) (n : Nat) =>
      ∃ p < 256, ∃ d, u.detector p = some d ∧ d.profile = n ∧ (d.state = .preAlarm ∨ d.state = .confirming)
    let tests := fun (u t : State) => ∀ n < 8,
      ((s.profile n).flag = true ∧ ¬ held u n →
        t.profile n = ⟨(s.profile n).pending, (s.profile n).pending, false⟩ ∧
          (t.link.reports.length < 95 → ⟨s.now, .profileApplied n⟩ ∈ t.link.outbox)) ∧
      ((s.profile n).flag = false ∨ held u n → t.profile n = s.profile n)
    ((s.scanner l).exchange = none → s.nextPoint l 0 = none →
      ∃ t, exec (.scanStart l) s = .next t ∧ tests s t ∧ (t.scanner l).exchange = none ∧
        (s.roomFor 8 → ∀ n < 8, (s.profile n).flag = true ∧ ¬ held s n → ⟨s.now, .profileApplied n⟩ ∈ t.link.outbox)) ∧
    (∀ e i, (s.scanner l).exchange = some e → (i = .replyWindowExpiry l ∨ ∃ a, i = .pointReply l a) →
      (s.nextPoint l e.point = none → ∃ t, exec i s = .next t ∧ tests t t ∧ (t.scanner l).exchange = none) ∧
      (s.nextPoint l e.point ≠ none → ∃ t, exec i s = .next t ∧ ∀ n, t.profile n = s.profile n)))

/-! ## Zones and evacuation (03) -/

/-- From R54 to R56: EVACUATE and the three outputs, SOUNDER_OUT, ALERT_OUT and EVAC_OUT, are what the zones, the
filtered line and the silenced flag make them, in every state; EVAC_OUT is not driven by EVAC_IN; and at start EVAC_OUT
and ALERT_OUT are inactive. -/
def Obligations.EvacuateAndOutputsFollowZonesAndLine : Prop :=
  ∀ s : State,
    (s.evacuate = true ↔ (∃ z < 48, (s.zone z).fire = .confirmed) ∨ s.fire.evacIn.level = true) ∧
    (s.evacOut = true ↔ ∃ z < 48, (s.zone z).fire = .confirmed) ∧
    (s.alertOut = true ↔ ∃ z < 48, (s.zone z).fire = .first ∨ (s.zone z).fire = .investigate) ∧
    (s.sounderOut = true ↔ s.evacuate = true ∧ s.fire.silenced = false) ∧
    (∀ b t, exec (.evacInChange b) s = .next t → t.evacOut = s.evacOut ∧ t.alertOut = s.alertOut) ∧
    ∃ t, exec .start s = .next t ∧ t.evacOut = false ∧ t.alertOut = false

/-- ACCEPT_FIRE in FIRST with its ACCEPT timer: INVESTIGATE with 180 s; the change is reported, and first of the event
(log 7); in any other case the request is refused WRONG_STATE. CONFIRM_FIRE, and the expiry of either zone timer,
confirm their zone: the timer stops, EVACUATE is active, the release latch holds EVAC, the silenced flag is clear,
EVAC_OUT and the sounders drive. No other zone moves. -/
def Obligations.FireRequestsAndTimersMoveTheirZone : Prop :=
  ∀ (z : Nat) (s : State), z < 48 →
    let confirmed := fun (t : State) =>
      ChangesOnly [.words, .zones, .silenced, .regimes, .doors, .latch, .pairs, .quiet, .calls, .exits, .signs, .lamps,
        .lampGroups, .reports, .replies] s t ∧
      t.zone z = { s.zone z with fire := .confirmed, timer := none } ∧ (∀ y, y ≠ z → t.zone y = s.zone y) ∧
      t.evacuate = true ∧ t.evacOut = true ∧ t.sounderOut = true ∧
      (s.evacuate = false → t.doors.latchEvac = true ∧ t.guard.quiet = none)
    (∀ tag c, s.link.free = true → (s.zone z).fire = .first → (s.zone z).timer = some (.accept c) → s.roomFor 1 →
      ∃ t, exec (.acceptFire tag z) s = .next t ∧ t.replies (.acceptFire tag z) .ok .none ∧
        ChangesOnly [.words, .zones, .exits, .signs, .reports, .replies] s t ∧
        t.zone z = { s.zone z with fire := .investigate, timer := some (.investigation ⟨180, 0⟩) } ∧
        (∀ y, y ≠ z → t.zone y = s.zone y) ∧ t.evacuate = s.evacuate ∧
        ∃ rs, t.link.outbox = s.link.outbox ++
          ⟨s.now, .zoneFire z .investigate .accept (s.zone z).first (s.zone z).count⟩ :: rs) ∧
    (∀ tag, s.link.free = true → (∀ c, ¬((s.zone z).fire = .first ∧ (s.zone z).timer = some (.accept c))) →
      ∃ t, exec (.acceptFire tag z) s = .next t ∧ t.replies (.acceptFire tag z) .wrongState .none ∧
        ChangesOnly [.reports, .replies] s t) ∧
    (∀ tag, s.link.free = true → (s.zone z).fire = .first ∨ (s.zone z).fire = .investigate →
      ∃ t, exec (.confirmFire tag z) s = .next t ∧ t.replies (.confirmFire tag z) .ok .none ∧ confirmed t) ∧
    (∀ c, (s.zone z).timer = some (.accept c) → ∃ t, exec (.acceptTimerExpiry z) s = .next t ∧ confirmed t) ∧
    (∀ c, (s.zone z).timer = some (.investigation c) → ∃ t, exec (.investigationTimerExpiry z) s = .next t ∧ confirmed t)

/-- A good reply of a MANUAL point that latches its operation: the point enters its zone's set, MANUAL_ALARM is placed,
its indicator is lit when no door, sign or call of another kind is bound to it, and its zone is CONFIRMED from whatever
state, with no coincidence and no investigation. A sample that takes a detector into ALARM (the statement of the samples
says which) lights its indicator likewise, is reported as DETECTOR_STATE, places DETECTOR_ALARM, and moves its zone by
the state it finds (R42): the fire state, the count, the first alarmed point and the ACCEPT timer. -/
def Obligations.AlarmsMoveTheirZone : Prop :=
  ∀ (l : LoopId) (e : Exchange) (s : State), (s.scanner l).exchange = some e → e.point < 256 →
    (s.point e.point).cfg.configured = true → s.effective e.point = false → (s.point e.point).cfg.zone < 48 →
    let z := (s.point e.point).cfg.zone
    let x := s.zone z
    let lit := fun (t : State) => (∀ d < 32, (s.door d).cfg.point ≠ some e.point) →
      (∀ n < 64, ∀ c, (s.sign n).cfg = some c → c.point ≠ e.point) → (∀ r ∈ s.calls.queue, r.point ≠ e.point) →
      (t.point e.point).word = .alarm true
    let placed := fun (t : State) (k : AlarmKind) => s.alarms.fireCount < 24 →
      ∃ a ∈ t.alarms.entries, a.kind = k ∧ a.obj = .point e.point ∧ a.active = true ∧ a.accepted = false ∧ a.last = s.now
    ((s.point e.point).cfg.kind = .manual → e.point ∉ x.latched →
      ∃ t, exec (.pointReply l (.input (.manual true))) s = .next t ∧ lit t ∧ placed t .manualAlarm ∧
        let y := t.zone z
        y.fire = .confirmed ∧ e.point ∈ y.latched ∧ (∀ q, q ≠ e.point → (q ∈ y.latched ↔ q ∈ x.latched)) ∧
          y.count = x.count ∧ (x.fire = .normal → y.first = some e.point) ∧ (x.fire ≠ .normal → y.first = x.first) ∧
          (x.fire ≠ .confirmed → y.timer = none) ∧ t.evacuate = true ∧ ∀ w, w ≠ z → t.zone w = s.zone w) ∧
    (∀ (i : Input) (d : Detector), i.kind = (s.point e.point).cfg.kind → s.detector e.point = some d → d.state ≠ .alarm →
      i.kind = .smoke ∨ i.kind = .heat →
      ∃ t n, exec (.pointReply l (.input i)) s = .next t ∧ t.detector e.point = some n ∧
        (n.state ≠ .alarm → t.fire = s.fire) ∧
        (n.state = .alarm → lit t ∧ placed t .detectorAlarm ∧
          (s.roomFor 5 → ⟨s.now, .detectorState e.point .alarm (n.lastC.getD 0) n.profile⟩ ∈ t.link.outbox) ∧
          let y := t.zone z
          let investigates := x.cfg.investigation = true ∧ s.zoneMode z ≠ .set
          y.count = x.count + 1 ∧ y.latched = x.latched ∧ y.cfg = x.cfg ∧ y.isolation = x.isolation ∧
            (x.fire = .normal → y.first = some e.point ∧
              (investigates → y.fire = .first ∧ y.timer = some (.accept ⟨30, 0⟩)) ∧
              (¬ investigates → x.cfg.coincidence = true → y.fire = .first ∧ y.timer = x.timer) ∧
              (¬ investigates → x.cfg.coincidence = false → y.fire = .confirmed ∧ y.timer = none)) ∧
            (x.fire = .first ∨ x.fire = .investigate → y.fire = .confirmed ∧ y.timer = none ∧ y.first = x.first) ∧
            (x.fire = .confirmed → y.fire = .confirmed ∧ y.timer = x.timer ∧ y.first = x.first) ∧
            (y.fire = .confirmed → t.evacuate = true) ∧ ∀ w, w ≠ z → t.zone w = s.zone w))

/-- SILENCE sets the silenced flag and touches nothing but it and the sounders, only while EVACUATE is active, and is
refused WRONG_STATE otherwise. R58: RESOUND clears the flag, which sounds the sounders again while EVACUATE is active. A
change of the flag is reported; a request that leaves it as it was is replied OK and changes nothing. -/
def Obligations.SilenceAndResoundMoveTheFlagAlone : Prop :=
  ∀ (tag : Byte) (s : State), s.link.free = true →
    let moves := fun (i : Instr) (flag : Bool) (b : ReportBody) =>
      ∃ t, exec i s = .next t ∧ t.replies i .ok .none ∧ t.fire.silenced = flag ∧
        t.sounderOut = (s.evacuate && !flag) ∧
        (s.fire.silenced = flag → ChangesOnly [.reports, .replies] s t ∧ s.sendsNoReport t) ∧
        (s.fire.silenced ≠ flag → ChangesOnly [.silenced, .reports, .replies] s t ∧ (s.roomFor 1 → s.reportsAll t [b]))
    (s.evacuate = true → moves (.silence tag) true (.evacuation true s.anyConfirmed s.fire.evacIn.level true)) ∧
    (s.evacuate = false →
      ∃ t, exec (.silence tag) s = .next t ∧ ChangesOnly [.reports, .replies] s t ∧
        t.replies (.silence tag) .wrongState .none ∧ s.sendsNoReport t) ∧
    moves (.resound tag) false (.evacuation s.evacuate s.anyConfirmed s.fire.evacIn.level false)

/-- A taken FIRE_RESET: every zone NORMAL with nothing latched, every detector QUIET, no FIRE entry left but the
EVAC_INPUT of a line still active, the silenced flag no, EVACUATE as the line alone holds it; configuration, isolations,
the store, the grants and the line filters stand. -/
def Obligations.FireResetClearsFire : Prop :=
  ∀ (tag : Byte) (s : State), s.link.free = true → s.sounderOut = false →
    (∃ z < 48, (s.zone z).fire ≠ .normal) ∨ s.fire.evacIn.level = true ∨ 0 < s.alarms.fireCount →
    ∃ t, exec (.fireReset tag) s = .next t ∧ t.replies (.fireReset tag) .ok .none ∧
      ChangesOnly [.words, .detectors, .zones, .silenced, .alarms, .regimes, .doors, .latch, .pairs, .quiet, .calls,
        .exits, .signs, .lamps, .lampGroups, .reports, .replies] s t ∧
      (∀ z < 48, (t.zone z).fire = .normal ∧ (t.zone z).latched = [] ∧ (t.zone z).cfg = (s.zone z).cfg ∧
        (t.zone z).isolation = (s.zone z).isolation ∧
        ((s.zone z).fire ≠ .normal → (t.zone z).count = 0 ∧ (t.zone z).first = none ∧ (t.zone z).timer = none)) ∧
      (∀ p < 256, ∀ d, s.detector p = some d →
        t.detector p = some (if d.state = .quiet then d else { d with state := .quiet, k := 0 })) ∧
      t.alarms.entries = s.alarms.entries.filter (fun e => !e.isFire) ++
        (if s.fire.evacIn.level then [⟨.evacInput, .none, true, false, s.now, s.now, 1⟩] else []) ∧
      t.fire.silenced = false ∧ t.evacuate = s.fire.evacIn.level ∧
      t.doors.latchEvac = s.doors.latchEvac ∧ t.doors.latchStartUp = s.doors.latchStartUp

/-- From R52 and R53: a filtered level moves at the third consecutive sample that disagrees, and only then; a sample
that agrees sets the count to 0. A filtered line that changes: EVAC_IN active raises EVAC_INPUT and holds EVACUATE, its
end leaves the entry as it stands and releases EVACUATE when no zone is CONFIRMED; MAINS_OK absent raises MAINS_ABSENT,
abandons every test and has every lamp carry EMERGENCY, and present ends MAINS_ABSENT and gives each lamp its mode
again; neither moves a zone's fire state. As a command of its own (the model's choice, log 4) a level that is not new
changes nothing. -/
def Obligations.LinesAreFilteredAndActOn : Prop :=
  (∀ (a b : Bool) (s : State), s.fire.evacIn.count ≤ 2 → s.fire.mainsOk.count ≤ 2 →
    let after := fun (f : LineFilter) (x : Bool) =>
      if x = f.level then (⟨f.level, 0⟩ : LineFilter) else if f.count = 2 then ⟨x, 0⟩ else ⟨f.level, f.count + 1⟩
    ∃ t, exec (.lineInputSample a b) s = .next t ∧ t.fire.evacIn = after s.fire.evacIn a ∧
      t.fire.mainsOk = after s.fire.mainsOk b ∧
      ((after s.fire.evacIn a).level = s.fire.evacIn.level → (after s.fire.mainsOk b).level = s.fire.mainsOk.level →
        ChangesOnly [.lines, .reports, .replies] s t ∧ s.sendsNoReport t)) ∧
  (∀ (b : Bool) (s : State), s.alarms.Sound →
    (s.fire.evacIn.level ≠ b →
      ∃ t, exec (.evacInChange b) s = .next t ∧ t.fire.evacIn = ⟨b, 0⟩ ∧ t.fire.zones = s.fire.zones ∧
        ChangesOnly [.words, .lines, .silenced, .alarms, .regimes, .doors, .latch, .pairs, .quiet, .calls, .exits, .signs,
          .lamps, .lampGroups, .reports, .replies] s t ∧
        t.evacuate = (s.anyConfirmed || b) ∧ (b = true → t.doors.latchEvac = true ∨ s.evacuate = true) ∧
        (b = true → s.alarms.fireCount < 24 → ∃ e ∈ t.alarms.entries, e.kind = .evacInput ∧ e.active = true ∧
          e.accepted = false ∧ e.last = s.now) ∧
        (b = false → t.alarms = s.alarms)) ∧
    (s.fire.mainsOk.level ≠ b →
      ∃ t, exec (.mainsOkChange b) s = .next t ∧
        ChangesOnly [.words, .lines, .alarms, .lamps, .lampGroups, .reports, .replies] s t ∧
        t.fire.mainsOk = ⟨b, 0⟩ ∧ t.fire.evacIn = s.fire.evacIn ∧
        (b = true → t.lamps = s.lamps ∧ ∀ e ∈ t.alarms.entries, e.kind = .mainsAbsent → e.obj = .none → e.active = false) ∧
        (b = false → (∀ g < 4, (t.lampGroup g).underTest = false) ∧
          t.alarms = (s.raise .mainsAbsent .none).alarms ∧
          (s.alarms.otherCount < 40 → ∃ e ∈ t.alarms.entries, e.kind = .mainsAbsent ∧ e.active = true ∧
            e.accepted = false ∧ e.last = s.now)) ∧
        ∀ p < 256, s.isKind p .lamp = true →
          (t.point p).word = .lamp (if b = true then t.lampMode p else .emergency)) ∧
    (s.fire.evacIn.level = b → ∃ t, exec (.evacInChange b) s = .next t ∧ ChangesOnly [.reports, .replies] s t) ∧
    (s.fire.mainsOk.level = b → ∃ t, exec (.mainsOkChange b) s = .next t ∧ ChangesOnly [.reports, .replies] s t))

/-! ## The alarm list (04) -/

/-- From R65, R66 and R67: a raise of an identity that the list holds is a recurrence in its place; otherwise a new
entry at the end of the list while the pool of its class has room, and otherwise the overflow mark of its class alone.
An end clears the ACTIVE entry of a SECURITY or FAULT identity, removing it if it was accepted, and changes nothing
otherwise. -/
def Obligations.RaiseAndEndMoveOneEntry : Prop :=
  ∀ (k : AlarmKind) (o : Obj) (s : State), s.alarms.Sound →
    let a := s.alarms
    let r := (s.raise k o).alarms
    let f := (s.endAlarm k o).alarms
    (∀ (i : Nat) (e : Entry), a.entries[i]? = some e → e.identity = (k, o) →
      let again : Entry :=
        { e with active := true, accepted := false, last := s.now, occurrences := min 255 (e.occurrences + 1) }
      r = { a with entries := a.entries.set i again } ∧
      f = (if kindClass k = .fire ∨ e.active = false then a
        else if e.accepted then { a with entries := a.entries.eraseIdx i }
        else { a with entries := a.entries.set i { e with active := false } })) ∧
    ((∀ e ∈ a.entries, e.identity ≠ (k, o)) → f = a ∧
      if (if kindClass k = .fire then a.fireCount < 24 else a.otherCount < 40) then
        r = { a with entries := a.entries ++ [⟨k, o, true, false, s.now, s.now, 1⟩] }
      else
        r.entries = a.entries ∧ r.markFire = (a.markFire || kindClass k == .fire) ∧
          r.markSecurity = (a.markSecurity || kindClass k == .security) ∧
          r.markFault = (a.markFault || kindClass k == .fault))

/-- ACCEPT_ALARM of a class, or of one entry by its kind and object: each entry named that is not accepted becomes
accepted if it is ACTIVE and leaves the list if it is CLEARED; every other entry stands; the reply counts both. An entry
that the list does not hold is refused NO_OBJECT where its object is of the sort that R64 gives its kind, and BAD_VALUE
where it is not; one that it holds is accepted whatever its object has become since (log 36). GET_ALARMS returns the
entries of its page with their positions, the counts, the lines and the marks, and clears the marks. A kind, a class or
a page that is none is refused BAD_VALUE. -/
def Obligations.AlarmsAreAcceptedAndPaged : Prop :=
  ∀ (tag : Byte) (s : State), s.link.free = true →
    let es := s.alarms.entries
    let accepts := fun (i : Instr) (named : Entry → Bool) =>
      let due := fun (e : Entry) => named e && !e.accepted
      ∃ t, exec i s = .next t ∧ ChangesOnly [.alarms, .reports, .replies] s t ∧ s.sendsNoReport t ∧
        t.replies i .ok (.accepted (es.countP due) (es.countP fun e => due e && !e.active)) ∧
        t.alarms = { s.alarms with
          entries := (es.filter fun e => !(due e && !e.active)).map fun e => if due e then { e with accepted := true } else e }
    let refuses := fun (i : Instr) (st : Status) =>
      ∃ t, exec i s = .next t ∧ ChangesOnly [.reports, .replies] s t ∧ s.sendsNoReport t ∧ t.replies i st .none
    let sort : AlarmKind → Obj → Bool := fun k o => match k, o with
      | .detectorAlarm, .point p => s.isKind p .smoke || s.isKind p .heat
      | .manualAlarm, .point p => s.isKind p .manual
      | .intrusionPresence, .point p => s.isKind p .presence
      | .callInSet, .point p | .callUnanswered, .point p => s.isKind p .call
      | .detectorDirty, .point p => s.isKind p .smoke
      | .lampFault, .point p | .batteryFault, .point p => s.isKind p .lamp
      | .signFault, .point p => s.isKind p .sign
      | .pointMissing, .point _ | .wrongKind, .point _ => true
      | .intrusionDoor, .door _ | .exitInSet, .door _ | .doorForced, .door _ | .doorHeldOpen, .door _
      | .lockFault, .door _ => true
      | .interlockBreach, .pair _ => true
      | .evacInput, .none | .mainsAbsent, .none | .settingsFault, .none => true
      | _, _ => false
    (∀ c, accepts (.acceptAlarm tag (.cls (some c))) fun e => kindClass e.kind == c) ∧
    refuses (.acceptAlarm tag (.cls none)) .badValue ∧
    (∀ o, refuses (.acceptAlarm tag (.entry none o)) .badValue) ∧
    (∀ k o, (∃ e ∈ es, e.identity = (k, o)) →
      accepts (.acceptAlarm tag (.entry (some k) o)) fun e => e.kind == k && e.obj == o) ∧
    (∀ k o, (∀ e ∈ es, e.identity ≠ (k, o)) →
      refuses (.acceptAlarm tag (.entry (some k) o)) (if sort k o = true then .noObject else .badValue)) ∧
    (∀ page ≤ 7, ∃ t v, exec (.getAlarms tag page) s = .next t ∧ ChangesOnly [.alarms, .reports, .replies] s t ∧
      s.sendsNoReport t ∧ t.replies (.getAlarms tag page) .ok (.alarms v) ∧ t.alarms = ⟨es, false, false, false⟩ ∧
      v.fireCount = s.alarms.fireCount ∧ v.otherCount = s.alarms.otherCount ∧
      v.faultOut = (es.any fun e => kindClass e.kind == .fault && e.active) ∧
      v.guardOut = (es.any fun e => (e.kind == .intrusionDoor || e.kind == .intrusionPresence) && !e.accepted) ∧
      v.markFire = s.alarms.markFire ∧ v.markSecurity = s.alarms.markSecurity ∧ v.markFault = s.alarms.markFault ∧
      ∀ i, v.page[i]? = if i < 8 then es[8 * page + i]?.map fun e => (8 * page + i, e) else none) ∧
    ∀ page, 7 < page → refuses (.getAlarms tag page) .badValue

/-! ## Regimes (05) -/

/-- SET_MODE applies its mode as R78 and R83 give: another mode than SET at once, ending a procedure; SET by a setting
procedure with the group's exit time when every zone of the group is NORMAL, refused WRONG_STATE when one is not, and
EVACUATING while EVACUATE is active; set-wanted stands while the procedure runs (log 21). CFG_GROUP writes its two
values, the exit time clamped and carried by an OK_CLAMPED reply (log 17), and nothing else. No other group moves. -/
def Obligations.SetModeAppliesItsTarget : Prop :=
  ∀ (tag : Byte) (g : Nat) (m : Mode) (s : State), s.link.free = true → g < 8 →
    let x := s.group g
    let i := Instr.setMode tag g (some m)
    let takes := fun (y : Group) (ps : List Part) =>
      ∃ t, exec i s = .next t ∧ t.replies i .ok .none ∧ ChangesOnly ps s t ∧ t.group g = y ∧
        ∀ h, h ≠ g → t.group h = s.group h
    let allNormal := ∀ z < 48, (s.zone z).cfg.group = g → (s.zone z).fire = .normal
    let moved : List Part := [.words, .regimes, .doors, .pairs, .exits, .signs, .reports, .replies]
    (s.evacuate = false →
      (m ≠ .set → takes { x with mode := m, setting := none, setWanted := false, retry := none } moved) ∧
      (m = .set → x.setting.isSome = true → takes x [.reports, .replies]) ∧
      (m = .set → x.setting = none → x.mode = .set →
        takes { x with setWanted := false, retry := none } [.regimes, .reports, .replies]) ∧
      (m = .set → x.setting = none → x.mode ≠ .set → allNormal →
        takes { x with setting := some ⟨x.cfg.exitTime, 0⟩, retry := none } moved)) ∧
    (s.evacuate = true ∨ (m = .set ∧ x.setting = none ∧ x.mode ≠ .set ∧ ¬ allNormal) →
      ∃ t, exec i s = .next t ∧ t.replies i (if s.evacuate then .evacuating else .wrongState) .none ∧
        ChangesOnly [.reports, .replies] s t ∧ s.sendsNoReport t) ∧
    (∀ e, s.cfgRefusal = none →
      ∃ t, exec (.cfgGroup tag g e (some m)) s = .next t ∧ ChangesOnly [.regimes, .reports, .replies] s t ∧
        s.sendsNoReport t ∧ t.group g = { x with cfg := ⟨clamp 10 180 e, m⟩ } ∧ (∀ h, h ≠ g → t.group h = s.group h) ∧
        if e < 10 ∨ 180 < e then t.replies (.cfgGroup tag g e (some m)) .okClamped (.clamped [clamp 10 180 e])
        else t.replies (.cfgGroup tag g e (some m)) .ok .none)

/-- STAGE_SEGMENT puts its segment in the staged slot, its length clamped to 1 to 1440 minutes; with no current segment
and EVACUATE inactive it is taken at once. SEGMENT_EXPIRY (whatever count is left, log 4) takes the staged segment, or
reloads a repeating one, or runs out; a taking or a reload is reported, SEGMENT before the GROUP_MODE of the same event
(log 7), and applies the segment's target: another mode than SET at once, SET by a setting procedure, through which
set-wanted stands as it was (log 21), and which a zone that is not NORMAL fails into the retry, and which a group
already SETTING or SET does not need. While EVACUATE is active no segment expires; with no current segment
SEGMENT_EXPIRY changes nothing (log 4). -/
def Obligations.SegmentsAreStagedAndTaken : Prop :=
  ∀ (g : Nat) (s : State), g < 8 → s.roomFor 1 →
    let x := s.group g
    let full := fun (y : Segment) => (⟨y, ⟨y.minutes * 60, 0⟩⟩ : Current)
    let others := fun (t : State) => ∀ h, h ≠ g → t.group h = s.group h
    let allNormal := ∀ z < 48, (s.zone z).cfg.group = g → (s.zone z).fire = .normal
    let begins := fun (t : State) (y : Segment) (cause : SegmentCause) =>
      let begun : Group := { x with current := some (full y), staged := none }
      ChangesOnly [.words, .regimes, .doors, .pairs, .exits, .signs, .reports, .replies] s t ∧ others t ∧
        (y.target ≠ .set → t.group g = { begun with mode := y.target, setting := none, setWanted := false, retry := none }) ∧
        (y.target = .set →
          (x.setting.isSome = true → t.group g = begun) ∧
          (x.setting = none → x.mode = .set → t.group g = { begun with setWanted := false, retry := none }) ∧
          (x.setting = none → x.mode ≠ .set → allNormal →
            t.group g = { begun with setting := some ⟨x.cfg.exitTime, 0⟩, retry := none }) ∧
          (x.setting = none → x.mode ≠ .set → ¬ allNormal →
            t.group g = { begun with setWanted := true, retry := some ⟨300, 0⟩ })) ∧
        ∃ rs, t.link.outbox = s.link.outbox ++ ⟨s.now, .segment g cause (some (full y)) none⟩ :: rs
    (∀ tag m minutes repeats, s.link.free = true →
      let i := Instr.stageSegment tag g (some m) minutes repeats
      let y : Segment := ⟨m, clamp 1 1440 minutes, repeats⟩
      let st : Status := if minutes < 1 ∨ 1440 < minutes then .okClamped else .ok
      (x.current = none → s.evacuate = false →
        ∃ t, exec i s = .next t ∧ begins t y .taken ∧ t.replies i st (.staged x.staged.isSome true (some (full y)) none)) ∧
      (x.current.isSome = true ∨ s.evacuate = true →
        ∃ t, exec i s = .next t ∧ ChangesOnly [.regimes, .reports, .replies] s t ∧ s.sendsNoReport t ∧
          t.group g = { x with staged := some y } ∧ others t ∧
          t.replies i st (.staged x.staged.isSome false x.current (some y)))) ∧
    (∀ c, x.current = some c → s.evacuate = false →
      (∀ y, x.staged = some y → ∃ t, exec (.segmentExpiry g) s = .next t ∧ begins t y .taken) ∧
      (x.staged = none → c.segment.repeats = true →
        ∃ t, exec (.segmentExpiry g) s = .next t ∧ begins t c.segment .repeated) ∧
      (x.staged = none → c.segment.repeats = false →
        ∃ t, exec (.segmentExpiry g) s = .next t ∧ ChangesOnly [.regimes, .reports, .replies] s t ∧ others t ∧
          t.group g = { x with current := none, setWanted := false, retry := none } ∧
          s.reportsAll t [.segment g .runOut none none])) ∧
    (s.evacuate = true ∨ x.current = none →
      ∃ t, exec (.segmentExpiry g) s = .next t ∧ ChangesOnly [.reports, .replies] s t ∧ s.sendsNoReport t)

/-- EXIT_TIME_EXPIRY: a group with no door open enters SET, and its public doors lose SCHEDULE; with a door open and not
isolated the procedure fails, and set-wanted and the 300 s retry timer follow the current segment's target.
RETRY_TIMER_EXPIRY applies SET: a procedure with the exit time, set-wanted standing meanwhile (log 21), or a failure
when a zone is not NORMAL. No other group moves. By the model's choice (log 4) EXIT_TIME_EXPIRY outside a procedure, and
RETRY_TIMER_EXPIRY while EVACUATE is active, when the timer is held, change nothing. -/
def Obligations.SettingEndsAtExitTime : Prop :=
  ∀ (g : Nat) (s : State), g < 8 →
    let x := s.group g
    let wants := x.current.any fun c => c.segment.target == .set
    let failed : Group := { x with setting := none, setWanted := wants, retry := if wants then some ⟨300, 0⟩ else none }
    let becomes := fun (i : Instr) (y : Group) =>
      ∃ t, exec i s = .next t ∧ ChangesOnly [.words, .regimes, .doors, .pairs, .exits, .signs, .reports, .replies] s t ∧
        t.group g = y ∧ (∀ h, h ≠ g → t.group h = s.group h) ∧
        (y.mode = .set → x.mode ≠ .set →
          ∀ d < 32, (s.door d).configured = true → s.doorGroup d = g → (t.door d).causes.schedule = false)
    let openDoor := ∃ d < 32, (s.door d).configured = true ∧ s.doorGroup d = g ∧ (s.door d).contact = some .opened ∧
      s.doorIsolated d = false
    let allNormal := ∀ z < 48, (s.zone z).cfg.group = g → (s.zone z).fire = .normal
    (x.setting.isSome = true →
      (¬ openDoor →
        becomes (.exitTimeExpiry g) { x with mode := .set, setting := none, setWanted := false, retry := none }) ∧
      (openDoor → becomes (.exitTimeExpiry g) failed)) ∧
    (x.retry.isSome = true → s.evacuate = false → x.setting = none →
      (x.mode = .set → becomes (.retryTimerExpiry g) { x with setWanted := false, retry := none }) ∧
      (x.mode ≠ .set → allNormal →
        becomes (.retryTimerExpiry g) { x with setting := some ⟨x.cfg.exitTime, 0⟩, retry := none }) ∧
      (x.mode ≠ .set → ¬ allNormal → becomes (.retryTimerExpiry g) failed)) ∧
    (x.setting = none → ∃ t, exec (.exitTimeExpiry g) s = .next t ∧ ChangesOnly [.reports, .replies] s t) ∧
    (s.evacuate = true → ∃ t, exec (.retryTimerExpiry g) s = .next t ∧ ChangesOnly [.reports, .replies] s t)

/-! ## Doors and interlocked vestibules (06, 07) -/

/-- RELEASE_DOOR, HOLD_DOOR and LOCK_DOOR on a configured door of no pair: TIMED with origin HOST for the seconds asked
or the configured time; HOST_HOLD; both removed, with 2 s of grace when one was present. An egress door while the
release latch holds a cause takes neither cause, and the reply is OK, or OK_CLAMPED where the seconds were clamped (log
16). A HOLD_DOOR that finds HOST_HOLD adds nothing (log 16). The reply carries the causes; no other door moves. -/
def Obligations.RequestsMoveAnUnpairedDoor : Prop :=
  ∀ (tag : Byte) (d : Nat) (s : State), s.link.free = true → d < 32 → (s.door d).configured = true → s.pairOf d = none →
    let x := s.door d
    let barred := x.cfg.egress = true ∧ s.latched = true
    let still := fun (i : Instr) (st : Status) =>
      ∃ t, exec i s = .next t ∧ ChangesOnly [.reports, .replies] s t ∧ s.sendsNoReport t ∧ t.replies i st (.causes x.causes)
    let moves := fun (i : Instr) (st : Status) (c : Causes) (p : Door → Prop) =>
      ∃ t, exec i s = .next t ∧ ChangesOnly [.words, .doors, .exits, .signs, .reports, .replies] s t ∧
        t.replies i st (.causes c) ∧ (t.door d).causes = c ∧ (t.door d).cfg = x.cfg ∧ (t.door d).contact = x.contact ∧
        (t.door d).feedback = x.feedback ∧ (t.door d).exitPressed = x.exitPressed ∧ (t.door d).forced = x.forced ∧
        (t.door d).heldOpen = x.heldOpen ∧ (t.door d).lockFault = x.lockFault ∧ (t.door d).ignore = x.ignore ∧
        p (t.door d) ∧ (∀ e, e ≠ d → t.door e = s.door e) ∧
        ∀ n, x.cfg.point = some n → n < 256 → (∀ m < 64, ∀ y, (s.sign m).cfg = some y → y.point ≠ n) →
          c.lock ≠ x.causes.lock → (t.point n).word = .door c.lock (s.doorHolder d)
    (∀ seconds : Option Nat,
      let i := Instr.releaseDoor tag d seconds
      let secs := match seconds with
        | some n => clamp 1 60 n
        | none => x.cfg.releaseTime
      let st : Status := if seconds.any fun n => n < 1 || 60 < n then .okClamped else .ok
      (barred → still i st) ∧
      (¬ barred → moves i st { x.causes with timed := some .host } fun y =>
        y.release = some ⟨secs, 0⟩ ∧ y.inUseRelease = secs ∧ y.grace = x.grace ∧
          y.openedTimed = if x.causes.timed.isSome then x.openedTimed else x.contact == some .opened)) ∧
    (barred ∨ x.causes.hostHold = true → still (.holdDoor tag d) .ok) ∧
    (¬ barred → x.causes.hostHold = false →
      moves (.holdDoor tag d) .ok { x.causes with hostHold := true } fun y =>
        y.release = x.release ∧ y.openedTimed = x.openedTimed ∧ y.grace = x.grace ∧ y.allow = none) ∧
    (x.causes.hostHold = true ∨ x.causes.timed.isSome = true →
      moves (.lockDoor tag d) .ok { x.causes with hostHold := false, timed := none } fun y =>
        y.release = none ∧ y.openedTimed = false ∧ y.grace = some ⟨2, 0⟩) ∧
    (x.causes.hostHold = false → x.causes.timed = none → still (.lockDoor tag d) .ok)

/-- CFG_DOOR that gives a door a new point remakes its record: the values as given, the two times clamped and carried by
an OK_CLAMPED reply (log 17), SCHEDULE alone by the point's group, contact, exit input and feedback from the point's
last input, the next reply only establishing the exit level (log 41), the in-use times equal to the configured ones (log
55), no fault, no watch flag, no timer but an allowance due at once (log 20), and its entries ended; unconfiguring
leaves an unused record (log 25). One that keeps its point takes the values, recomputes SCHEDULE and the holder, and
leaves the working state, but for what a change of SCHEDULE carries with it: 2 s of grace where it leaves, the mismatch
count where the lock changes, the allowance where the door becomes held or unheld. CFG_PAIR that changes a pair's doors
takes the quiet state of each from its causes and contact, with an empty slot and no breach; one that keeps its doors
takes the two times alone. -/
def Obligations.CfgDoorRemakesRecord : Prop :=
  ∀ (tag : Byte) (s : State), s.link.free = true → s.cfgRefusal = none → s.latched = false → s.alarms.Sound →
    let ended := fun (t : State) (d : Nat) =>
      ChangesOnly [.words, .alarms, .doors, .marks, .reports, .replies] s t ∧ (∀ e, e ≠ d → t.door e = s.door e) ∧
        t.guard.doorIntrusion.get d = false ∧ t.guard.doorExit.get d = false ∧
        ∀ e ∈ t.alarms.entries, e.obj = .door d →
          e.kind = .doorForced ∨ e.kind = .doorHeldOpen ∨ e.kind = .lockFault → e.active = false
    (∀ (d : Nat) (c : DoorSetting) (m : ExitMode), d < 32 → isPoint c.point = true → s.isKind c.point .door = true →
      (∀ e < 32, (s.door e).cfg.point ≠ some c.point) → c.exitMode = some m → s.doorNamed d = false →
      let clamped := outside 1 60 c.releaseTime || outside 5 600 c.allowance
      ∃ t, exec (.cfgDoor tag d (some c)) s = .next t ∧ ended t d ∧
        t.replies (.cfgDoor tag d (some c)) (if clamped then .okClamped else .ok)
          (if clamped then .clamped [clamp 1 60 c.releaseTime, clamp 5 600 c.allowance] else .none) ∧
        let x := t.door d
        x.cfg = ⟨some c.point, c.egress, c.publicDoor, c.holder, clamp 1 60 c.releaseTime, clamp 5 600 c.allowance, m,
          c.relock⟩ ∧
        x.causes = ⟨false, c.publicDoor && (s.zoneMode (s.point c.point).cfg.zone == .openHours), false, none, false⟩ ∧
        x.inUseRelease = x.cfg.releaseTime ∧ x.inUseAllowance = x.cfg.allowance ∧
        x.contact = (s.point c.point).doorInput.map (·.1) ∧ x.exitPressed = (s.point c.point).doorInput.map (·.2.1) ∧
        x.feedback = (s.point c.point).doorInput.map (·.2.2) ∧ x.mismatch = 0 ∧ x.forced = none ∧ x.heldOpen = false ∧
        x.lockFault = false ∧ x.unread = true ∧ x.release = none ∧ x.grace = none ∧ x.ignore = none ∧
        x.allow = (if x.contact = some .opened ∧ x.causes.schedule = false ∧ s.effective c.point = false then
          some ⟨x.cfg.allowance, 0⟩ else none) ∧
        (t.point c.point).word = .door x.causes.lock (t.holderOf d)) ∧
    (∀ (d : Nat) (c : DoorSetting) (m : ExitMode), d < 32 → isPoint c.point = true → s.isKind c.point .door = true →
      (∀ e < 32, (s.door e).cfg.point = some c.point ↔ e = d) → c.exitMode = some m →
      (∀ q w, s.pairOf d = some q → (s.pair q).cfg = some w → w.doorX ≠ w.doorY ∧ c.publicDoor = false ∧
        (s.door d).causes.schedule = false ∧
        ((s.door d).isQuiet = true ↔ (if w.doorX = d then (s.pair q).quietX else (s.pair q).quietY) ≠ .notQuiet)) →
      let x := s.door d
      let new : DoorCfg := ⟨some c.point, c.egress, c.publicDoor, c.holder, clamp 1 60 c.releaseTime,
        clamp 5 600 c.allowance, m, c.relock⟩
      let causes : Causes := { x.causes with
        schedule := c.publicDoor && (s.zoneMode (s.point c.point).cfg.zone == .openHours) }
      let stands := fun (y : Causes) => x.contact = some .opened ∧ y.held = false ∧ s.effective c.point = false
      let clamped := outside 1 60 c.releaseTime || outside 5 600 c.allowance
      ∃ t, exec (.cfgDoor tag d (some c)) s = .next t ∧
        ChangesOnly [.words, .doors, .exits, .signs, .reports, .replies] s t ∧ (∀ e, e ≠ d → t.door e = s.door e) ∧
        t.replies (.cfgDoor tag d (some c)) (if clamped then .okClamped else .ok)
          (if clamped then .clamped [new.releaseTime, new.allowance] else .none) ∧
        (x.cfg = new → t.door d = x ∧ s.sendsNoReport t) ∧
        (x.cfg ≠ new →
          t.door d = { x with
            cfg := new
            causes := causes
            grace := if x.causes.schedule = true ∧ causes.schedule = false then some ⟨2, 0⟩ else x.grace
            mismatch := if causes.lock = x.causes.lock then x.mismatch else 0
            allow := if stands causes then (if stands x.causes then x.allow else some ⟨new.allowance, 0⟩) else none
            inUseAllowance := if stands causes ∧ ¬ stands x.causes then new.allowance else x.inUseAllowance } ∧
          (t.point c.point).word = .door causes.lock (t.holderOf d))) ∧
    (∀ d < 32, (s.door d).configured = true → s.doorNamed d = false →
      ∃ t, exec (.cfgDoor tag d none) s = .next t ∧ ended t d ∧ t.replies (.cfgDoor tag d none) .ok .none ∧
        t.door d = .fresh .unused .none) ∧
    (∀ (q : Nat) (c : PairSetting), q < 8 → c.doorX ≠ c.doorY →
      (∀ d, d = c.doorX ∨ d = c.doorY → d < 32 ∧ (s.door d).configured = true ∧ (s.door d).cfg.publicDoor = false ∧
        (s.pairOf d = none ∨ s.pairOf d = some q)) →
      (s.door c.doorX).causes.isEmpty = true ∨ (s.door c.doorY).causes.isEmpty = true →
      (∀ o, (s.pair q).cfg = some o → ¬(o.doorX = c.doorX ∧ o.doorY = c.doorY)) →
      let new : PairSetting := ⟨c.doorX, c.doorY, clamp 0 10 c.dead, clamp 5 60 c.wait⟩
      let clamped := outside 0 10 c.dead || outside 5 60 c.wait
      let quiet := fun (d : Nat) =>
        if (s.door d).causes.isEmpty = true ∧ (s.door d).contact = some .closed then
          (if new.dead = 0 then Quiet.settled else .quiet ⟨new.dead, 0⟩) else .notQuiet
      ∃ t, exec (.cfgPair tag q (some c)) s = .next t ∧ ChangesOnly [.alarms, .pairs, .reports, .replies] s t ∧
        t.pair q = ⟨some new, quiet c.doorX, quiet c.doorY, none, false⟩ ∧ (∀ r, r ≠ q → t.pair r = s.pair r) ∧
        t.replies (.cfgPair tag q (some c)) (if clamped then .okClamped else .ok)
          (if clamped then .clamped [new.dead, new.wait] else .none)) ∧
    (∀ (q : Nat) (c o : PairSetting), q < 8 → c.doorX ≠ c.doorY →
      (∀ d, d = c.doorX ∨ d = c.doorY → d < 32 ∧ (s.door d).configured = true ∧ (s.door d).cfg.publicDoor = false ∧
        (s.pairOf d = none ∨ s.pairOf d = some q)) →
      (s.door c.doorX).causes.isEmpty = true ∨ (s.door c.doorY).causes.isEmpty = true →
      (s.pair q).cfg = some o → o.doorX = c.doorX → o.doorY = c.doorY →
      let new : PairSetting := ⟨c.doorX, c.doorY, clamp 0 10 c.dead, clamp 5 60 c.wait⟩
      let clamped := outside 0 10 c.dead || outside 5 60 c.wait
      ∃ t, exec (.cfgPair tag q (some c)) s = .next t ∧ ChangesOnly [.pairs, .reports, .replies] s t ∧
        s.sendsNoReport t ∧ t.pair q = { s.pair q with cfg := some new } ∧ (∀ r, r ≠ q → t.pair r = s.pair r) ∧
        t.replies (.cfgPair tag q (some c)) (if clamped then .okClamped else .ok)
          (if clamped then .clamped [new.dead, new.wait] else .none)) ∧
    (∀ q < 8, (s.pair q).cfg.isSome = true →
      ∃ t, exec (.cfgPair tag q none) s = .next t ∧ ChangesOnly [.alarms, .pairs, .reports, .replies] s t ∧
        t.pair q = .fresh none ∧ (∀ r, r ≠ q → t.pair r = s.pair r) ∧ t.replies (.cfgPair tag q none) .ok .none)

/-- The timers of a door: at the release timer's expiry TIMED leaves the set, with 2 s of grace, and the quiet time of a
paired door that this leaves quiet starts; the grace timer and the close-ignore window become absent; at the allowance's
expiry HELD_OPEN is set and DOOR_HELD_OPEN raised. As commands (the model's choice, log 4) they act whatever count is
left, and a release timer or an allowance that is not running changes nothing. No other door moves. -/
def Obligations.DoorTimersExpire : Prop :=
  ∀ (d : Nat) (s : State), d < 32 →
    let x := s.door d
    let others := fun (t : State) => ∀ e, e ≠ d → t.door e = s.door e
    let locks := fun (t : State) => exec (.releaseTimerExpiry d) s = .next t ∧ others t ∧
      (t.door d).causes = { x.causes with timed := none } ∧ (t.door d).release = none ∧
      (t.door d).openedTimed = false ∧ (t.door d).grace = some ⟨2, 0⟩ ∧ (t.door d).contact = x.contact ∧
      (t.door d).cfg = x.cfg
    (x.release.isSome = true → x.causes.timed.isSome = true →
      (s.pairOf d = none →
        ∃ t, locks t ∧ ChangesOnly [.words, .doors, .exits, .signs, .reports, .replies] s t) ∧
      (∀ q c, s.pairOf d = some q → (s.pair q).cfg = some c → c.doorX ≠ c.doorY → (s.pair q).slot = none →
        (if c.doorX = d then (s.pair q).quietX else (s.pair q).quietY) = .notQuiet →
        ∃ t, locks t ∧ ChangesOnly [.words, .doors, .pairs, .exits, .signs, .reports, .replies] s t ∧
          let quiet : Quiet := if (t.door d).causes = .none ∧ x.contact = some .closed then
            (if c.dead = 0 then .settled else .quiet ⟨c.dead, 0⟩) else .notQuiet
          t.pair q = (if c.doorX = d then { s.pair q with quietX := quiet } else { s.pair q with quietY := quiet }) ∧
            ∀ r, r ≠ q → t.pair r = s.pair r)) ∧
    (∃ t, exec (.graceTimerExpiry d) s = .next t ∧ others t ∧ ChangesOnly [.doors, .reports, .replies] s t ∧
      s.sendsNoReport t ∧ t.door d = { x with grace := none }) ∧
    (∃ t, exec (.closeIgnoreWindowEnd d) s = .next t ∧ others t ∧ ChangesOnly [.doors, .reports, .replies] s t ∧
      s.sendsNoReport t ∧ t.door d = { x with ignore := none }) ∧
    (x.allow.isSome = true →
      ∃ t, exec (.allowanceTimerExpiry d) s = .next t ∧ others t ∧ ChangesOnly [.alarms, .doors, .reports, .replies] s t ∧
        t.door d = { x with allow := none, heldOpen := true } ∧ t.alarms = (s.raise .doorHeldOpen (.door d)).alarms) ∧
    (x.release = none →
      ∃ t, exec (.releaseTimerExpiry d) s = .next t ∧ ChangesOnly [.reports, .replies] s t ∧ s.sendsNoReport t) ∧
    (x.allow = none →
      ∃ t, exec (.allowanceTimerExpiry d) s = .next t ∧ ChangesOnly [.reports, .replies] s t ∧ s.sendsNoReport t)

/-- A good reply of a DOOR point bound to a door of no pair, part by part (R98). Feedback: the mismatch count and
LOCK_FAULT (R105), the count cleared by a changed command (R94). Exit input: an EDGE press adds or restarts TIMED with
origin EXIT, the first reply of a record made anew being none (R99); a held LEVEL button adds EXIT_LEVEL, and its
release leaves TIMED in its place with no grace (R100); a barred egress door takes neither; OFF records the input alone.
An EXIT_LEVEL that stands in mode EDGE or OFF stays at a release of the button (log 33). Contact: an opening starts the
1 s close-ignore window and marks a TIMED as opened under; a closing ends FORCED and HELD_OPEN, and with relock on close
a TIMED opened under, outside the window, with 2 s of grace (R102, R103). The allowance runs while the door stands open,
unheld and not isolated (R104), and starts afresh at the first reply after an isolation (R106). OPEN found then is an
opening that is not forced (log 34). No other door moves. -/
def Obligations.DoorRepliesMoveTheDoor : Prop :=
  ∀ (l : LoopId) (e : Exchange) (d : Nat) (c : Contact) (pressed : Bool) (fb : Lock) (s : State),
    (s.scanner l).exchange = some e → e.point < 256 → (s.point e.point).cfg.configured = true →
    (s.point e.point).cfg.kind = .door → s.doorOf e.point = some d → s.pairOf d = none →
    s.nextPoint l e.point ≠ none ∨ s.doors.latchStartUp = false →
    let x := s.door d
    let isolated := s.effective e.point
    let barred := x.cfg.egress = true ∧ s.latched = true
    let press := x.cfg.exitMode = .edge ∧ pressed = true ∧ x.exitPressed = some false ∧ x.unread = false ∧ ¬ barred
    let hold := x.cfg.exitMode = .level ∧ pressed = true ∧ ¬ barred
    let letGo := x.cfg.exitMode = .level ∧ pressed = false ∧ x.causes.exitLevel = true
    let causes : Causes :=
      if press then { x.causes with timed := some .exit }
      else if hold then { x.causes with exitLevel := true }
      else if letGo then { x.causes with exitLevel := false, timed := some .exit }
      else x.causes
    let timed := if press ∨ letGo then some (⟨x.cfg.releaseTime, 0⟩ : Countdown) else x.release
    let under := if (press ∨ letGo) ∧ x.causes.timed = none then x.contact == some .opened else x.openedTimed
    let opening := x.contact = some .closed ∧ c = .opened
    let closing := x.contact = some .opened ∧ c = .closed
    let relocks := closing ∧ x.cfg.relock = true ∧ causes.timed.isSome = true ∧ under = true ∧ x.ignore = none
    let wrong := min 3 (x.mismatch + 1)
    let stood := x.contact = some .opened ∧ x.causes.held = false ∧ isolated = false
    let stands := c = .opened ∧ x.causes.held = false ∧ isolated = false
    ∃ t, exec (.pointReply l (.input (.door c pressed fb))) s = .next t ∧ (∀ f, f ≠ d → t.door f = s.door f) ∧
      let y := t.door d
      y.cfg = x.cfg ∧ y.contact = some c ∧ y.feedback = some fb ∧ y.exitPressed = some pressed ∧ y.unread = false ∧
        y.afresh = false ∧
        y.causes = (if relocks then { causes with timed := none } else causes) ∧
        y.release = (if relocks then none else timed) ∧
        y.inUseRelease = (if press ∨ letGo then x.cfg.releaseTime else x.inUseRelease) ∧
        y.openedTimed = (if relocks then false else if opening ∧ causes.timed.isSome = true then true else under) ∧
        y.grace = (if relocks then some ⟨2, 0⟩ else x.grace) ∧
        y.ignore = (if opening then some ⟨1, 0⟩ else x.ignore) ∧
        y.mismatch = (if fb = x.causes.lock ∨ causes.lock ≠ x.causes.lock ∨ y.causes.lock ≠ causes.lock then 0 else wrong) ∧
        y.lockFault = (if fb = x.causes.lock then false else x.lockFault || wrong == 3) ∧
        y.heldOpen = (if closing then false else x.heldOpen) ∧
        (closing → y.forced = none) ∧ (¬ closing → ¬ opening → y.forced = x.forced) ∧
        (opening → if causes = .none ∧ x.grace = none ∧ isolated = false ∧ x.afresh = false then y.forced.isSome = true
          else y.forced = x.forced) ∧
        y.allow = (if stands then (if stood ∧ (x.afresh = false ∨ x.allow.isSome = true) then x.allow
          else some ⟨x.cfg.allowance, 0⟩) else none) ∧
        y.inUseAllowance = (if stands ∧ ¬(stood ∧ (x.afresh = false ∨ x.allow.isSome = true)) then x.cfg.allowance
          else x.inUseAllowance)

/-- The conditions a good reply of a bound DOOR point begins and ends: LOCK_FAULT raised when the flag is set, or is
still set at the first reply after an isolation (R106), held back under isolation, and ended by an agreeing reply
(R105); at a closing DOOR_FORCED of class FORCING, DOOR_HELD_OPEN and the door's marks in the GM ended with their
entries (R103, R104, R126); EXIT_IN_SET placed at an opening with an exit release in a watched zone (R125), one that
stands or one that the same reply brings by an EDGE press, a LEVEL button or its release, which are judged before the
contact (R98 to R100); the breach of a pair placed at an opening beside an open partner with the latch empty, and ended
at a closing (R119). OPEN found at the first reply after an isolation is such an opening too: the model's reading (log
34). A DOOR point that comes under isolation keeps its causes, its word and its LOCK_FAULT, and loses FORCED, HELD_OPEN,
the allowance, its marks, its entries and a breach of its pair; leaving it, the door is to be taken afresh (log 18). -/
def Obligations.DoorRepliesAndIsolationMoveConditions : Prop :=
  ∀ (d : Nat) (n : Nat) (s : State), n < 256 → (s.point n).cfg.configured = true → (s.point n).cfg.kind = .door →
    s.doorOf n = some d → s.inAlarm n = false → s.alarms.Sound → s.alarms.otherCount < 37 →
    (∀ q c, (s.pair q).cfg = some c → c.doorX ≠ c.doorY) →
    let x := s.door d
    let placed := fun (t : State) (k : AlarmKind) (o : Obj) =>
      ∃ a ∈ t.alarms.entries, a.kind = k ∧ a.obj = o ∧ a.active = true ∧ a.accepted = false ∧ a.last = s.now
    let ended := fun (t : State) (k : AlarmKind) (o : Obj) =>
      ∀ a ∈ t.alarms.entries, a.kind = k → a.obj = o → a.active = false
    (∀ (l : LoopId) (e : Exchange) (c : Contact) (pressed : Bool) (fb : Lock), (s.scanner l).exchange = some e →
      e.point = n → s.nextPoint l n ≠ none ∨ s.doors.latchStartUp = false →
      let clear := ∀ q w, s.pairOf d = some q → (s.pair q).cfg = some w →
        let partner := if w.doorX = d then w.doorY else w.doorX
        (∀ r, (s.pair q).slot = some r → r.door ≠ partner) ∧ (s.door partner).causes.evac = false ∧
          (if w.doorX = partner then (s.pair q).quietX else (s.pair q).quietY) = .settled
      let pressing := pressed = true ∧ ¬(x.cfg.egress = true ∧ s.latched = true) ∧ clear ∧
        (x.cfg.exitMode = .level ∨ x.cfg.exitMode = .edge ∧ x.exitPressed = some false ∧ x.unread = false)
      let releasing := x.cfg.exitMode = .level ∧ pressed = false ∧ x.causes.exitLevel = true
      let carries := pressing ∨ (x.causes.exitRelease = true ∧ ¬ releasing) ∨
        (releasing ∧ (clear ∨ x.causes.timed = some .exit))
      let wrong := fb ≠ x.causes.lock
      let sets := x.lockFault = false ∧ 2 ≤ x.mismatch
      ∃ t, exec (.pointReply l (.input (.door c pressed fb))) s = .next t ∧
        (wrong → sets ∨ (x.afresh = true ∧ x.lockFault = true) → s.effective n = false → placed t .lockFault (.door d)) ∧
        (wrong → s.effective n = true → ∀ a, a.kind = .lockFault →
          (a ∈ t.alarms.entries ↔ a ∈ s.alarms.entries)) ∧
        (¬ wrong → x.lockFault = true → ended t .lockFault (.door d)) ∧
        (x.contact = some .opened → c = .closed →
          (x.forced = some .forcing → ended t .doorForced (.door d)) ∧
          (x.heldOpen = true → ended t .doorHeldOpen (.door d)) ∧
          (s.guard.doorIntrusion.get d = true → ended t .intrusionDoor (.door d)) ∧
          (s.guard.doorExit.get d = true → ended t .exitInSet (.door d)) ∧
          t.guard.doorIntrusion.get d = false ∧ t.guard.doorExit.get d = false ∧
          ∀ q, s.pairOf d = some q → (t.pair q).breach = false ∧
            ((s.pair q).breach = true → ended t .interlockBreach (.pair q))) ∧
        (x.contact = some .closed → c = .opened →
          (carries → s.guarded (s.doorZone d) = true →
            s.covered (s.doorZone d) = false → s.effective n = false → s.guard.doorExit.get d = false →
            t.guard.doorExit.get d = true ∧ placed t .exitInSet (.door d)) ∧
          ∀ q w, s.pairOf d = some q → (s.pair q).cfg = some w →
            let partner := if w.doorX = d then w.doorY else w.doorX
            ((s.door partner).contact = some .opened → s.latched = false → s.effective n = false →
              s.doorIsolated partner = false → (s.pair q).breach = false →
              (t.pair q).breach = true ∧ placed t .interlockBreach (.pair q)) ∧
            ((s.door partner).contact ≠ some .opened ∨ s.latched = true ∨ s.effective n = true ∨
              s.doorIsolated partner = true → (t.pair q).breach = (s.pair q).breach))) ∧
    (∀ tag m, s.link.free = true → isPoint n = true → (s.point n).isolation = .none →
      ∃ t, exec (.isolate tag (.point n) (.temporary m)) s = .next t ∧ (∀ f, f ≠ d → t.door f = s.door f) ∧
        t.door d = { x with forced := none, heldOpen := false, allow := none, afresh := false } ∧
        (∀ p, (t.point p).word = (s.point p).word) ∧
        t.guard.doorIntrusion.get d = false ∧ t.guard.doorExit.get d = false ∧
        (∀ a ∈ t.alarms.entries, a.obj = .door d → kindClass a.kind ≠ .fire → a.active = false) ∧
        ∀ q, s.pairOf d = some q → (t.pair q).breach = false ∧
          ((s.pair q).breach = true → ended t .interlockBreach (.pair q))) ∧
    (∀ tag m, s.link.free = true → isPoint n = true → (s.point n).isolation = .temporary m →
      ∃ t, exec (.restoreIsolation tag (.point n)) s = .next t ∧ t.door d = { x with afresh := true } ∧
        ∀ f, f ≠ d → t.door f = s.door f)

/-- DOOR_RESTORE takes EVAC from the latch, and is refused EVACUATING while EVACUATE is active and WRONG_STATE without
EVAC; the end of the start-up hold takes START_UP. The other cause keeps the latch and every door as they were; a latch
that empties takes EVAC from every configured door, leaving its other causes, and gives each 2 s of grace. As a command
of its own START_UP_HOLD_END acts whatever the two counts are and leaves them at 4, and changes nothing without
START_UP: the model's choice (log 4). -/
def Obligations.LatchLosesItsCauses : Prop :=
  ∀ s : State,
    let empties := fun (t : State) =>
      (∀ d < 32, (s.door d).configured = true → (t.door d).causes.evac = false ∧ (t.door d).grace = some ⟨2, 0⟩ ∧
        (t.door d).causes.schedule = (s.door d).causes.schedule ∧ (t.door d).cfg = (s.door d).cfg ∧
        (t.door d).contact = (s.door d).contact) ∧
      ((∀ q < 8, (s.pair q).slot = none) → ∀ d < 32, (s.door d).configured = true →
        (t.door d).causes = { (s.door d).causes with evac := false }) ∧
      (∀ d, (s.door d).configured = false → (∀ q < 8, (s.pair q).slot = none) → t.door d = s.door d)
    (∀ tag, s.link.free = true →
      (s.evacuate = false → s.doors.latchEvac = true →
        ∃ t, exec (.doorRestore tag) s = .next t ∧ t.replies (.doorRestore tag) .ok (.latch false s.doors.latchStartUp) ∧
          t.doors.latchEvac = false ∧ t.doors.latchStartUp = s.doors.latchStartUp ∧
          (s.doors.latchStartUp = true → ChangesOnly [.latch, .reports, .replies] s t) ∧
          (s.doors.latchStartUp = false → empties t ∧
            ChangesOnly [.words, .alarms, .doors, .latch, .pairs, .exits, .signs, .reports, .replies] s t)) ∧
      (s.evacuate = true ∨ s.doors.latchEvac = false →
        ∃ t, exec (.doorRestore tag) s = .next t ∧ ChangesOnly [.reports, .replies] s t ∧
          t.replies (.doorRestore tag) (if s.evacuate then .evacuating else .wrongState) .none)) ∧
    (s.doors.latchStartUp = true →
      ∃ t, exec .startUpHoldEnd s = .next t ∧ t.doors.latchStartUp = false ∧ t.doors.latchEvac = s.doors.latchEvac ∧
        t.doors.scansA = 4 ∧ t.doors.scansB = 4 ∧
        (s.doors.latchEvac = true → ChangesOnly [.latch, .scanCounts, .reports, .replies] s t) ∧
        (s.doors.latchEvac = false → empties t ∧
          ChangesOnly [.words, .alarms, .doors, .latch, .scanCounts, .pairs, .exits, .signs, .reports, .replies] s t)) ∧
    (s.doors.latchStartUp = false →
      ∃ t, exec .startUpHoldEnd s = .next t ∧ ChangesOnly [.reports, .replies] s t ∧ s.sendsNoReport t)

/-- From R115 for a door of a pair that is not barred: a host request is INTERLOCKED behind a request for the partner or
beside a partner that holds EVAC, added when the partner is SETTLED, and otherwise PENDING in the slot with the pair's
wait limit; an EDGE press is dropped, added or placed in the slot in the same cases; a LEVEL press is added only when
the partner is SETTLED, and the TIMED after its release too, the door locking with 2 s of grace where it is refused. The
quiet timer's expiry settles its door and grants a request of the partner that waits, reported as PASS_RESULT first of
the event (log 44) and, at every grant, as DOOR_STATE (log 32); the wait's expiry empties the slot, REFUSED. LOCK_DOOR
empties the slot of a request for its door, CANCELLED LOCK as the first report of the event (log 44), and leaves one for
the partner, which is granted where the door so becomes SETTLED at once; HOST_HOLD and TIMED leave with 2 s of grace and
the quiet time starts, and the reply OK carries the causes that remain. -/
def Obligations.PairsRuleOnAdditions : Prop :=
  ∀ (d q : Nat) (c : PairSetting) (s : State), s.pairOf d = some q → (s.pair q).cfg = some c → d < 32 →
    (s.door d).configured = true → c.doorX ≠ c.doorY →
    let x := s.door d
    let partner := if c.doorX = d then c.doorY else c.doorX
    let quietOf := fun (p : Pair) (e : Nat) => if c.doorX = e then p.quietX else p.quietY
    let barred := x.cfg.egress = true ∧ s.latched = true
    let adds := fun (i : Instr) (cause : PendingCause) (after : Causes) =>
      let behind := (∃ r, (s.pair q).slot = some r ∧ r.door = partner) ∨ (s.door partner).causes.evac = true
      (behind →
        ∃ t, exec i s = .next t ∧ ChangesOnly [.reports, .replies] s t ∧ s.sendsNoReport t ∧
          t.replies i .interlocked (.causes x.causes)) ∧
      (¬ behind → quietOf (s.pair q) partner = .settled →
        ∃ t, exec i s = .next t ∧ ChangesOnly [.words, .doors, .pairs, .exits, .signs, .reports, .replies] s t ∧
          t.replies i .ok (.causes after) ∧ (t.door d).causes = after ∧ quietOf (t.pair q) d = .notQuiet ∧
          (∀ e, e ≠ d → t.door e = s.door e)) ∧
      (¬ behind → quietOf (s.pair q) partner ≠ .settled →
        ∃ t, exec i s = .next t ∧ ChangesOnly [.pairs, .reports, .replies] s t ∧ t.replies i .pending (.causes x.causes) ∧
          t.pair q = { s.pair q with slot := some ⟨d, cause, ⟨c.wait, 0⟩⟩ } ∧ ∀ r, r ≠ q → t.pair r = s.pair r)
    (∀ tag n, s.link.free = true → ¬ barred → 1 ≤ n → n ≤ 60 →
      adds (.releaseDoor tag d (some n)) (.timed n .host) { x.causes with timed := some .host }) ∧
    (∀ tag, s.link.free = true → ¬ barred → x.causes.hostHold = false →
      adds (.holdDoor tag d) .hostHold { x.causes with hostHold := true }) ∧
    (∀ (l : LoopId) (e : Exchange) (k : Contact), (s.scanner l).exchange = some e → e.point < 256 →
      (s.point e.point).cfg.configured = true → (s.point e.point).cfg.kind = .door → s.doorOf e.point = some d →
      s.nextPoint l e.point ≠ none ∨ s.doors.latchStartUp = false → x.contact = some k →
      (x.isQuiet = true → quietOf (s.pair q) d ≠ .notQuiet) →
      let behind := (∃ r, (s.pair q).slot = some r ∧ r.door = partner) ∨ (s.door partner).causes.evac = true
      let clear := ¬ behind ∧ quietOf (s.pair q) partner = .settled
      let reply := fun (pressed : Bool) => exec (.pointReply l (.input (.door k pressed x.causes.lock))) s
      (x.cfg.exitMode = .edge → x.exitPressed = some false → x.unread = false → ¬ barred →
        ∃ t, reply true = .next t ∧ (t.door d).exitPressed = some true ∧
          (t.door d).causes = (if clear then { x.causes with timed := some .exit } else x.causes) ∧
          (clear → (t.door d).release = some ⟨x.cfg.releaseTime, 0⟩) ∧
          (t.pair q).slot = (if ¬ behind ∧ ¬ clear then some ⟨d, .timed x.cfg.releaseTime .exit, ⟨c.wait, 0⟩⟩
            else (s.pair q).slot)) ∧
      (x.cfg.exitMode = .level → ¬ barred → x.causes.exitLevel = false →
        ∃ t, reply true = .next t ∧ (t.pair q).slot = (s.pair q).slot ∧
          (t.door d).causes = if clear then { x.causes with exitLevel := true } else x.causes) ∧
      (x.cfg.exitMode = .level → x.causes.exitLevel = true →
        ∃ t, reply false = .next t ∧
          (clear → (t.door d).causes = { x.causes with exitLevel := false, timed := some .exit } ∧
            (t.door d).grace = x.grace) ∧
          (¬ clear → (t.door d).causes = { x.causes with exitLevel := false } ∧ (t.door d).grace = some ⟨2, 0⟩))) ∧
    (∀ w, quietOf (s.pair q) d = .quiet w →
      ((∀ r, (s.pair q).slot = some r → r.door ≠ partner) →
        ∃ t, exec (.quietTimerExpiry d) s = .next t ∧ ChangesOnly [.pairs, .reports, .replies] s t ∧ s.sendsNoReport t ∧
          t.pair q = (if c.doorX = d then { s.pair q with quietX := .settled } else { s.pair q with quietY := .settled }) ∧
          ∀ r, r ≠ q → t.pair r = s.pair r) ∧
      (∀ r, (s.pair q).slot = some r → r.door = partner → partner < 32 → s.roomFor 1 →
        ∃ t rs, exec (.quietTimerExpiry d) s = .next t ∧ (t.pair q).slot = none ∧ quietOf (t.pair q) d = .settled ∧
          t.link.outbox = s.link.outbox ++ ⟨s.now, .passResult q partner r.cause .granted⟩ :: rs ∧
          (t.door partner).causes = (match r.cause with
            | .hostHold => { (s.door partner).causes with hostHold := true }
            | .timed _ o => { (s.door partner).causes with timed := some o }) ∧
          (∀ n o, r.cause = .timed n o → (t.door partner).release = some ⟨n, 0⟩) ∧
          (∀ e, e ≠ partner → t.door e = s.door e) ∧
          (s.roomFor 66 → ∃ holder,
            let y := t.door partner
            let ev : DoorEvent := match r.cause with
              | .timed _ .exit => .exitInput
              | _ => .request
            ⟨s.now, .doorState partner y.cfg.point y.causes y.causes.lock holder y.contact y.feedback y.forced y.heldOpen
              y.lockFault (t.pair q).breach ev⟩ ∈ rs))) ∧
    (∀ tag, s.link.free = true →
      let held := x.causes.hostHold = true ∨ x.causes.timed.isSome = true
      let after : Causes := { x.causes with hostHold := false, timed := none }
      let ofPartner := ∃ r, (s.pair q).slot = some r ∧ r.door = partner
      let ofDoor := ∃ r, (s.pair q).slot = some r ∧ r.door = d
      let settles := held ∧ c.dead = 0 ∧ after = .none ∧ x.contact = some .closed
      ∃ t, exec (.lockDoor tag d) s = .next t ∧ t.replies (.lockDoor tag d) .ok (.causes after) ∧
        (t.door d).causes = after ∧ (t.door d).cfg = x.cfg ∧ (t.door d).contact = x.contact ∧
        (held → (t.door d).release = none ∧ (t.door d).openedTimed = false ∧ (t.door d).grace = some ⟨2, 0⟩ ∧
          (quietOf (s.pair q) d = .notQuiet → quietOf (t.pair q) d =
            if after = .none ∧ x.contact = some .closed then
              (if c.dead = 0 then .settled else .quiet ⟨c.dead, 0⟩) else .notQuiet)) ∧
        (¬ held → t.door d = x ∧ t.pair q = { s.pair q with slot := if ofDoor then none else (s.pair q).slot }) ∧
        (¬(ofPartner ∧ settles) →
          ChangesOnly [.words, .doors, .pairs, .exits, .signs, .reports, .replies] s t ∧
            (∀ e, e ≠ d → t.door e = s.door e) ∧ (t.pair q).breach = (s.pair q).breach ∧
            (t.pair q).slot = (if ofDoor then none else (s.pair q).slot) ∧ ∀ r, r ≠ q → t.pair r = s.pair r) ∧
        (ofPartner → settles → quietOf (s.pair q) d = .notQuiet → (t.pair q).slot = none) ∧
        (¬ held → ¬ ofDoor → s.sendsNoReport t) ∧
        ∀ r, (s.pair q).slot = some r → r.door = d → s.roomFor 1 →
          ∃ rs, t.link.outbox = s.link.outbox ++ ⟨s.now, .passResult q d r.cause .cancelledLock⟩ :: rs) ∧
    (∀ r, (s.pair q).slot = some r → s.roomFor 1 →
      ∃ t, exec (.pendingWaitExpiry q) s = .next t ∧ ChangesOnly [.pairs, .reports, .replies] s t ∧
        t.pair q = { s.pair q with slot := none } ∧ (∀ p, p ≠ q → t.pair p = s.pair p) ∧
        s.reportsAll t [.passResult q r.door r.cause .refused])

/-! ## Guarding (08) -/

/-- GRANT_PASSAGE takes the lowest free slot with a number that no grant holds, the duration clamped to 30 to 900 s, and
covers its zones; a full table is refused FULL. END_PASSAGE and the expiry empty the slot of their number and report the
end. The expiry of the quiet timer makes it absent, and the guarding of a zone then follows from its group, EVACUATE and
its fire state. -/
def Obligations.GrantsCoverTheirZones : Prop :=
  ∀ s : State,
    (∀ (tag : Byte) (zs : List Nat) (n : Nat), s.link.free = true → zs ≠ [] → zs.length ≤ 4 → (∀ z ∈ zs, z < 48) → zs.Nodup →
      let i := Instr.grantPassage tag zs n
      (∀ k < 4, s.guard.grants.get k = none → (∀ j < k, (s.guard.grants.get j).isSome = true) →
        ∃ t number, exec i s = .next t ∧ ChangesOnly [.grants, .reports, .replies] s t ∧ s.sendsNoReport t ∧
          t.replies i (if n < 30 ∨ 900 < n then .okClamped else .ok) (.grant k number (clamp 30 900 n)) ∧
          t.guard.grants.get k = some ⟨number, zs, clamp 30 900 n, ⟨clamp 30 900 n, 0⟩, s.now⟩ ∧
          (∀ j, j ≠ k → t.guard.grants.get j = s.guard.grants.get j) ∧
          (∀ j g, s.guard.grants.get j = some g → g.number ≠ number) ∧
          ((∀ j g, s.guard.grants.get j = some g → g.number ≠ s.guard.nextGrant) → number = s.guard.nextGrant) ∧
          t.guard.nextGrant = (if number = 255 then 1 else number + 1) ∧ ∀ z ∈ zs, t.covered z = true) ∧
      ((∀ k < 4, (s.guard.grants.get k).isSome = true) →
        ∃ t, exec i s = .next t ∧ ChangesOnly [.reports, .replies] s t ∧ t.replies i .full .none)) ∧
    (∀ (k : Nat) (g : Grant), k < 4 → s.guard.grants.get k = some g → s.roomFor 1 →
      (∀ j h, j ≠ k → s.guard.grants.get j = some h → h.number ≠ g.number) →
      let ends := fun (t : State) (expired : Bool) =>
        ChangesOnly [.grants, .reports, .replies] s t ∧ t.guard.grants.get k = none ∧
          (∀ j, j ≠ k → t.guard.grants.get j = s.guard.grants.get j) ∧ t.guard.nextGrant = s.guard.nextGrant ∧
          s.reportsAll t [.grant g.number k g.zones expired]
      (∀ tag, s.link.free = true → ∃ t, exec (.endPassage tag g.number) s = .next t ∧ ends t false ∧
        t.replies (.endPassage tag g.number) .ok .none) ∧
      ∃ t, exec (.grantExpiry g.number) s = .next t ∧ ends t true) ∧
    (∀ tag n, s.link.free = true → (∀ j g, s.guard.grants.get j = some g → g.number ≠ n) →
      ∃ t, exec (.endPassage tag n) s = .next t ∧ ChangesOnly [.reports, .replies] s t ∧
        t.replies (.endPassage tag n) .noObject .none) ∧
    ∃ t, exec .gmQuietTimerExpiry s = .next t ∧ ChangesOnly [.quiet, .reports, .replies] s t ∧ s.sendsNoReport t ∧
      t.guard.quiet = none ∧
      ∀ z, t.guarded z = true ↔ s.zoneMode z = .set ∧ s.evacuate = false ∧ (s.zone z).fire = .normal

/-- From R123 and R124: at a good reply of a PRESENCE point not under effective isolation, presence in a guarded zone
that no grant covers sets the point's mark and places its INTRUSION_PRESENCE, and absence clears the mark. An opening
that no cause and no grace allows, in any exit input mode and with any feedback and exit input of the reply, is forced,
of class INTRUSION in such a zone, with the door's mark set and INTRUSION_DOOR placed, and of class FORCING elsewhere,
with DOOR_FORCED placed; but where the same reply brings a press that adds its cause, an EDGE press or a LEVEL button
that the latch does not bar and the pair takes, the opening is not forced. -/
def Obligations.GuardedZonesWatchPresenceAndDoors : Prop :=
  ∀ (l : LoopId) (e : Exchange) (s : State), (s.scanner l).exchange = some e → e.point < 256 →
    (s.point e.point).cfg.configured = true → s.effective e.point = false → s.alarms.otherCount < 40 →
    (∀ q c, (s.pair q).cfg = some c → c.doorX ≠ c.doorY) →
    let watched := fun (z : Nat) => s.zoneMode z = .set ∧ s.evacuate = false ∧ s.guard.quiet = none ∧
      (s.zone z).fire = .normal ∧ s.covered z = false
    let placed := fun (t : State) (k : AlarmKind) (o : Obj) =>
      ∃ a ∈ t.alarms.entries, a.kind = k ∧ a.obj = o ∧ a.active = true ∧ a.accepted = false ∧ a.last = s.now
    ((s.point e.point).cfg.kind = .presence → ∀ active : Bool,
      ∃ t, exec (.pointReply l (.input (.presence active))) s = .next t ∧
        t.guard.presence.get e.point = (if active then s.guard.presence.get e.point ||
          decide (watched (s.point e.point).cfg.zone) else false) ∧
        (∀ p, p ≠ e.point → t.guard.presence.get p = s.guard.presence.get p) ∧
        (active = true → s.guard.presence.get e.point = false → watched (s.point e.point).cfg.zone →
          placed t .intrusionPresence (.point e.point) ∧ t.guardOut = true)) ∧
    ((s.point e.point).cfg.kind = .door → ∀ d, s.doorOf e.point = some d → (s.door d).contact = some .closed →
      (s.door d).causes.isEmpty = true → (s.door d).grace = none → (s.door d).afresh = false →
      ∀ (pressed : Bool) (fb : Lock), fb = .locked ∨ s.alarms.otherCount < 39 →
      let x := s.door d
      let quietOf := fun (p : Pair) (w : PairSetting) (f : Nat) => if w.doorX = f then p.quietX else p.quietY
      pressed = false ∨ x.cfg.exitMode = .off ∨
        (∀ q w, s.pairOf d = some q → (s.pair q).cfg = some w → quietOf (s.pair q) w d ≠ .notQuiet) →
      let clear := ∀ q w, s.pairOf d = some q → (s.pair q).cfg = some w →
        let partner := if w.doorX = d then w.doorY else w.doorX
        (∀ r, (s.pair q).slot = some r → r.door ≠ partner) ∧ (s.door partner).causes.evac = false ∧
          quietOf (s.pair q) w partner = .settled
      let freed := pressed = true ∧ ¬(x.cfg.egress = true ∧ s.latched = true) ∧ clear ∧
        (x.cfg.exitMode = .level ∨ x.cfg.exitMode = .edge ∧ x.exitPressed = some false ∧ x.unread = false)
      ∃ t, exec (.pointReply l (.input (.door .opened pressed fb))) s = .next t ∧
        (t.door d).contact = some .opened ∧ (t.door d).ignore = some ⟨1, 0⟩ ∧
        (freed → (t.door d).forced = x.forced ∧ t.guard.doorIntrusion = s.guard.doorIntrusion) ∧
        (¬ freed → watched (s.doorZone d) → (t.door d).forced = some .intrusion ∧ t.guard.doorIntrusion.get d = true ∧
          placed t .intrusionDoor (.door d) ∧ t.guardOut = true) ∧
        (¬ freed → ¬ watched (s.doorZone d) → (t.door d).forced = some .forcing ∧
          t.guard.doorIntrusion = s.guard.doorIntrusion ∧ placed t .doorForced (.door d)))

/-! ## Visitor calls (09) -/

/-- From R5, R7, R127 and R132: a good reply of a CALL point with a request is a press of the point, and one without a
request is none. A press at a CALL point of a guarded SET zone is intercepted, leaving every call as it was and one
CLEARED CALL_IN_SET entry; any other press changes nothing where the point has a record or a deferred press, is deferred
at an isolated point or with no place in the queue, and is otherwise admitted, a REFUGE press displacing the WAITING
HELP record of latest admission when the queue is full. From R134: at END_CALL the deferred presses of points that are
not isolated are admitted while places are free, REFUGE before HELP, oldest press first and then lowest point, each with
its press time as its admission time; a press that is left stands behind every one admitted. -/
def Obligations.PressTakesOneOfItsForms : Prop :=
  (∀ (tag : Byte) (r : Call) (s : State), s.link.free = true → s.CallsSound → r ∈ s.calls.queue →
    let time := fun (p : Nat) => (s.point p).deferred
    let cls := fun (p : Nat) => (s.point p).cfg.cls.getD .help
    let ready := fun (p : Nat) => isPoint p = true ∧ (time p).isSome = true ∧ s.effective p = false
    let before := fun (p q : Nat) => (cls p = .refuge ∧ cls q = .help) ∨
      (cls p = cls q ∧ ((time p).getD 0 < (time q).getD 0 ∨ ((time p).getD 0 = (time q).getD 0 ∧ p < q)))
    ∃ t, exec (.endCall tag r.number) s = .next t ∧ t.replies (.endCall tag r.number) .ok .none ∧
      (∀ p, (t.point p).deferred = time p ∨ (t.point p).deferred = none ∧ ready p) ∧
      (∀ p, ready p → (t.point p).deferred = none →
        ∃ x ∈ t.calls.queue, x.point = p ∧ some x.admission = time p ∧ x.cls = cls p ∧ x.unanswered = 0 ∧
          x.escalated = false) ∧
      (∀ p, ready p → (t.point p).deferred ≠ none → t.calls.queue.length = 16 ∧
        ∀ q, ready q → (t.point q).deferred = none → before q p) ∧
      ∀ x ∈ s.calls.queue, x.number ≠ r.number → x.number ∈ t.calls.queue.map (·.number)) ∧
  (∀ (l : LoopId) (e : Exchange) (request : Bool) (s : State), (s.scanner l).exchange = some e → e.point < 256 →
    (s.point e.point).cfg.configured = true → (s.point e.point).cfg.kind = .call →
    s.nextPoint l e.point ≠ none ∨ s.doors.latchStartUp = false →
    let kept := s.putPoint e.point { s.point e.point with lastInput := some (.call request) }
    let u := if request then kept.press e.point else kept
    ∃ t rs, exec (.pointReply l (.input (.call request))) s = .next t ∧ t.calls = u.calls ∧
      (∀ p, (t.point p).deferred = (u.point p).deferred ∧ (t.point p).word = (u.point p).word) ∧
      t.link.outbox = u.link.outbox ++ rs ∧
      ((s.point e.point).health = .normal → t.alarms = u.alarms ∧ (s.nextPoint l e.point ≠ none → rs = []))) ∧
  (∀ (p : Nat) (s : State), s.CallsSound → p < 256 →
    let t := s.press p
    let z := (s.point p).cfg.zone
    let cls := (s.point p).cfg.cls.getD .help
    let held := (∃ r ∈ s.calls.queue, r.point = p) ∨ (s.point p).deferred.isSome = true
    let intercepted := s.zoneMode z = .set ∧ s.evacuate = false ∧ s.guard.quiet = none ∧ (s.zone z).fire = .normal ∧
      s.effective p = false
    let displaced := fun (r : Call) => r ∈ s.calls.queue ∧ r.cls = .help ∧ r.state = .waiting ∧
      ∀ x ∈ s.calls.queue, x.cls = .help → x.state = .waiting → x.admission ≤ r.admission
    let admitted := (∃ r ∈ t.calls.queue, r.point = p ∧ r.admission = s.now ∧ r.cls = cls ∧ r.unanswered = 0 ∧
        r.escalated = false ∧ ∀ x ∈ t.calls.queue, x ≠ r → x.number ≠ r.number) ∧ (t.point p).deferred = none
    let deferred := (t.point p).deferred = some s.now ∧ (t.point p).word = .call .wait none ∧ t.calls = s.calls ∧
      ∀ q, q ≠ p → t.point q = s.point q
    (intercepted → t.calls = s.calls ∧ t.loops = s.loops ∧
      (s.alarms.otherCount < 40 → ∃ a ∈ t.alarms.entries, a.kind = .callInSet ∧ a.obj = .point p ∧ a.active = false ∧
        a.accepted = false ∧ a.last = s.now)) ∧
    (¬ intercepted → held → t = s) ∧
    (¬ intercepted → ¬ held → s.effective p = true → deferred) ∧
    (¬ intercepted → ¬ held → s.effective p = false →
      (s.calls.queue.length < 16 → admitted ∧ t.calls.queue.length = s.calls.queue.length + 1) ∧
      (s.calls.queue.length = 16 → cls = .refuge → (∃ r, displaced r) → admitted ∧ t.calls.queue.length = 16 ∧
        ∃ r, displaced r ∧ (∀ x ∈ t.calls.queue, x.point ≠ r.point) ∧
          (r.point < 256 → (t.point r.point).deferred = some r.admission)) ∧
      (s.calls.queue.length = 16 → cls = .help ∨ (∀ r ∈ s.calls.queue, ¬(r.cls = .help ∧ r.state = .waiting)) → deferred)))

/-- ANSWER_CALL connects an OFFERED record on its channel with a limit of 900 s and no unanswered offer; HOLD_CALL gives
up the channel of a CONNECTED one, which may be offered again at once; END_CALL and the limit remove the record, its
point IDLE; an offer's expiry counts, and at 3 escalates and raises CALL_UNANSWERED. Every other record keeps its place.
-/
def Obligations.CallRequestsAndTimersMoveTheirRecord : Prop :=
  ∀ (r : Call) (s : State), s.CallsSound → s.alarms.Sound → r ∈ s.calls.queue →
    let n := r.number
    let places := fun (t : State) => t.calls.queue.map (fun x => (x.number, x.point, x.cls, x.admission)) =
      s.calls.queue.map (fun x => (x.number, x.point, x.cls, x.admission))
    let atRest := fun (t : State) => ∀ a ∈ t.alarms.entries, a.kind = .callUnanswered → a.obj = .point r.point →
      a.active = false
    let removed := fun (t : State) =>
      ChangesOnly [.presses, .words, .alarms, .calls, .reports, .replies] s t ∧ atRest t ∧
        ((∀ p, (s.point p).deferred = none) →
          t.calls.queue.map (·.number) = (s.calls.queue.map (·.number)).filter (· != n) ∧ t.calls.next = s.calls.next ∧
            (r.point < 256 → (t.point r.point).word = .call .idle none))
    (∀ tag ch w, s.link.free = true → r.state = .offered ch w →
      ∃ t, exec (.answerCall tag n) s = .next t ∧ ChangesOnly [.words, .alarms, .calls, .reports, .replies] s t ∧
        t.replies (.answerCall tag n) .ok .none ∧ t.calls.next = s.calls.next ∧ atRest t ∧
        t.calls.queue = (s.calls.queue.map fun x => if x.number = n then
          { r with state := .connected ch s.now ⟨900, 0⟩, unanswered := 0, escalated := false } else x) ∧
        (r.point < 256 → (t.point r.point).word = .call .connected (some ch))) ∧
    (∀ tag ch since w, s.link.free = true → r.state = .connected ch since w →
      ∃ t, exec (.holdCall tag n) s = .next t ∧ ChangesOnly [.words, .calls, .reports, .replies] s t ∧
        t.replies (.holdCall tag n) .ok .none ∧ places t ∧
        (∃ x ∈ t.calls.queue, x.number = n ∧ x.unanswered = r.unanswered ∧
          (x.state = .held ∨ ∃ k, x.state = .offered k ⟨20, 0⟩)) ∧
        (s.evacuate = true → r.cls = .help → ∃ x ∈ t.calls.queue, x.number = n ∧ x.state = .held)) ∧
    (∀ tag, s.link.free = true →
      ∃ t, exec (.endCall tag n) s = .next t ∧ removed t ∧ t.replies (.endCall tag n) .ok .none) ∧
    (∀ ch since w, r.state = .connected ch since w → ∃ t, exec (.limitTimerExpiry n) s = .next t ∧ removed t) ∧
    (∀ ch w, r.state = .offered ch w →
      ∃ t, exec (.offerTimerExpiry n) s = .next t ∧ ChangesOnly [.words, .alarms, .calls, .reports, .replies] s t ∧
        places t ∧
        (∃ x ∈ t.calls.queue, x.number = n ∧ x.unanswered = min 3 (r.unanswered + 1) ∧
          x.escalated = (r.escalated || decide (2 ≤ r.unanswered)) ∧
          (x.state = .waiting ∨ ∃ k, x.state = .offered k ⟨20, 0⟩)) ∧
        t.alarms = (if 2 ≤ r.unanswered ∧ s.effective r.point = false then (s.raise .callUnanswered (.point r.point)).alarms
          else s.alarms)) ∧
    (∀ tag, s.link.free = true → (∀ ch w, r.state ≠ .offered ch w) →
      ∃ t, exec (.answerCall tag n) s = .next t ∧ ChangesOnly [.reports, .replies] s t ∧
        t.replies (.answerCall tag n) .wrongState .none)

/-! ## Routes and signs (10) -/

/-- BLOCK_EXIT and UNBLOCK_EXIT move the blocked mark of a configured exit, CFG_EXIT its door and zone: the exit is then
usable as R146 gives it, and the reply to the first two says so; every sign has chosen by R150. Unconfiguring an exit
that no sign names leaves it unusable and not blocked; of one that a sign names it is refused WRONG_STATE. A door or a
zone that is not there is refused BAD_VALUE, and BLOCK_EXIT and UNBLOCK_EXIT of an exit that is not configured
NO_OBJECT. No other exit's configuration or mark moves. -/
def Obligations.ExitsAreBlockedAndConfigured : Prop :=
  ∀ (tag : Byte) (e : Nat) (s : State), s.link.free = true → s.RoutesSound → e < 12 →
    let usable := fun (c : ExitSetting) (blocked : Bool) =>
      !blocked && (c.zone.all fun z => (s.zone z).fire != .confirmed) && (c.door.all fun d => !(s.door d).jammed)
    let others := fun (t : State) => ChangesOnly [.words, .exits, .signs, .reports, .replies] s t ∧ t.RoutesSound ∧
      ∀ f, f ≠ e → t.exit f = s.exit f
    let refuses := fun (i : Instr) (st : Status) =>
      ∃ t, exec i s = .next t ∧ ChangesOnly [.reports, .replies] s t ∧ s.sendsNoReport t ∧ t.replies i st .none
    (∀ c, (s.exit e).cfg = some c →
      (∃ t, exec (.blockExit tag e) s = .next t ∧ others t ∧ t.exit e = ⟨some c, true, false⟩ ∧
        t.replies (.blockExit tag e) .ok (.exitState true false)) ∧
      (∃ t, exec (.unblockExit tag e) s = .next t ∧ others t ∧ t.exit e = ⟨some c, false, usable c false⟩ ∧
        t.replies (.unblockExit tag e) .ok (.exitState false (usable c false)))) ∧
    (∀ c : ExitSetting, s.cfgRefusal = none → (∀ d, c.door = some d → d < 32 ∧ (s.door d).configured = true) →
      (∀ z, c.zone = some z → z < 48) →
      ∃ t, exec (.cfgExit tag e (some c)) s = .next t ∧ others t ∧ t.replies (.cfgExit tag e (some c)) .ok .none ∧
        t.exit e = ⟨some c, (s.exit e).blocked, usable c (s.exit e).blocked⟩) ∧
    (s.cfgRefusal = none → (s.exit e).cfg.isSome = true →
      (∀ n < 64, ∀ c, (s.sign n).cfg = some c → ∀ r ∈ c.entries, r.exit ≠ e) →
      ∃ t, exec (.cfgExit tag e none) s = .next t ∧ others t ∧ t.replies (.cfgExit tag e none) .ok .none ∧
        t.exit e = ⟨none, false, false⟩) ∧
    (s.cfgRefusal = none → (∃ n < 64, ∃ c, (s.sign n).cfg = some c ∧ ∃ r ∈ c.entries, r.exit = e) →
      refuses (.cfgExit tag e none) .wrongState) ∧
    (∀ c : ExitSetting, s.cfgRefusal = none →
      (∃ d, c.door = some d ∧ (31 < d ∨ (s.door d).configured = false)) ∨ (∃ z, c.zone = some z ∧ 47 < z) →
      refuses (.cfgExit tag e (some c)) .badValue) ∧
    ((s.exit e).cfg = none → refuses (.blockExit tag e) .noObject ∧ refuses (.unblockExit tag e) .noObject)

/-- CFG_SIGN binds a sign to its point with its default face, entries, sequence and phase, the reply of a clamped phase
carrying it (log 17): the first entry is chosen whose exit is usable and none of whose path's zones is CONFIRMED, a
change of the place of the chosen entry, none for a sign not configured before, is reported (log 53), and the point
carries the default face; a sign that keeps its point keeps its fault, and one that leaves a point, or is unconfigured,
leaves it DARK with its SIGN_FAULT ended. CFG_SEQUENCE writes the sequence and its steps in the store alone, durations
clamped to 1 to 20 and returned (log 17). SEQUENCE_STEP advances a sign whose step has run out, the first step after the
last, and writes the face of the step; with more than one scan left it changes nothing (log 4). -/
def Obligations.SignsAreConfiguredAndStepped : Prop :=
  (∀ (tag : Byte) (n : Nat) (x : SignSetting) (f : Face) (es : List RouteEntry) (s : State), s.link.free = true →
    s.cfgRefusal = none → s.alarms.Sound → n < 64 → s.isKind x.point .sign = true →
    (∀ m < 64, m ≠ n → ∀ c, (s.sign m).cfg = some c → c.point ≠ x.point) → x.face = some f → f ≠ .noExit →
    x.entries = (es.map fun r => ⟨r.exit, some r.face, r.path⟩) → es.length ≤ 4 →
    (∀ r ∈ es, r.exit < 12 ∧ (s.exit r.exit).cfg.isSome = true ∧
      (r.face = .left ∨ r.face = .right ∨ r.face = .ahead ∨ r.face = .up ∨ r.face = .down) ∧ r.path ≠ [] ∧
      r.path.length ≤ 6 ∧ (∀ z ∈ r.path, z < 48) ∧ r.path.Nodup) → (∀ q, x.sequence = some q → q < 16) →
    let new : SignCfg := ⟨x.point, f, es, x.sequence, min 7 x.phase⟩
    let stays := (s.sign n).cfg.map (·.point) = some x.point
    let opens := fun (r : RouteEntry) => (s.exit r.exit).usable = true ∧ ∀ z ∈ r.path, (s.zone z).fire ≠ .confirmed
    ∃ t, exec (.cfgSign tag n (some x)) s = .next t ∧ ChangesOnly [.words, .alarms, .signs, .reports, .replies] s t ∧
      (if 7 < x.phase then t.replies (.cfgSign tag n (some x)) .okClamped (.clamped [7])
        else t.replies (.cfgSign tag n (some x)) .ok .none) ∧
      (t.sign n).cfg = some new ∧ (∀ m, m ≠ n → t.sign m = s.sign m) ∧
      ((s.sign n).cfg = some new → t.sign n = s.sign n ∧ s.sendsNoReport t) ∧
      ((s.sign n).cfg ≠ some new →
        (t.sign n).fault = (decide stays && (s.sign n).fault) ∧ (t.sign n).step = none ∧
        (∀ k, (t.sign n).chosen = some k → ∃ r, es[k]? = some r ∧ opens r ∧ ∀ j < k, ∀ y, es[j]? = some y → ¬ opens y) ∧
        ((t.sign n).chosen = none → ∀ r ∈ es, ¬ opens r) ∧ (t.point x.point).word = .sign f ∧
        (∀ c, (s.sign n).cfg = some c → c.point ≠ x.point → (c.point < 256 → (t.point c.point).word = .sign .dark) ∧
          ∀ a ∈ t.alarms.entries, a.kind = .signFault → a.obj = .point c.point → a.active = false) ∧
        ((t.sign n).chosen = (s.sign n).chosen →
          ∀ r ∈ t.link.outbox, ∀ m p c a b k, r.body = .routeChange m p c a b k → r ∈ s.link.outbox) ∧
        ((t.sign n).chosen ≠ (s.sign n).chosen → s.roomFor 2 →
          ⟨s.now, .routeChange n x.point (t.sign n).chosen (new.chosenFace (t.sign n).chosen) f .config⟩ ∈
            t.link.outbox))) ∧
  (∀ (tag : Byte) (n : Nat) (c : SignCfg) (s : State), s.link.free = true → s.cfgRefusal = none → s.alarms.Sound →
    n < 64 → (s.sign n).cfg = some c →
    ∃ t, exec (.cfgSign tag n none) s = .next t ∧ ChangesOnly [.words, .alarms, .signs, .reports, .replies] s t ∧
      t.replies (.cfgSign tag n none) .ok .none ∧ t.sign n = ⟨none, none, none, false⟩ ∧
      (∀ m, m ≠ n → t.sign m = s.sign m) ∧ (c.point < 256 → (t.point c.point).word = .sign .dark) ∧
      ∀ a ∈ t.alarms.entries, a.kind = .signFault → a.obj = .point c.point → a.active = false) ∧
  (∀ (tag : Byte) (q first : Nat) (steps : List (StepKind × Nat)) (s : State), s.link.free = true → s.cfgRefusal = none →
    q < 16 → first < 64 → 1 ≤ steps.length → steps.length ≤ 8 → first + steps.length ≤ 64 →
    let i := Instr.cfgSequence tag q first steps.length (steps.map fun x => ⟨some x.1, x.2⟩)
    ∃ t, exec i s = .next t ∧ ChangesOnly [.sequences, .reports, .replies] s t ∧ s.sendsNoReport t ∧
      t.routes.sequences.get q = ⟨first, steps.length⟩ ∧
      (∀ r, r ≠ q → t.routes.sequences.get r = s.routes.sequences.get r) ∧
      (∀ k x, steps[k]? = some x → t.routes.steps.get (first + k) = ⟨x.1, clamp 1 20 x.2⟩) ∧
      (∀ k, k < first ∨ first + steps.length ≤ k → t.routes.steps.get k = s.routes.steps.get k) ∧
      if steps.any fun x => outside 1 20 x.2 then t.replies i .okClamped (.clamped (steps.map fun x => clamp 1 20 x.2))
      else t.replies i .ok .none) ∧
  (∀ (n q : Nat) (c : SignCfg) (st : StepState) (s : State), n < 64 → (s.sign n).cfg = some c → c.sequence = some q →
    (s.sign n).step = some st →
    (st.scans ≤ 1 →
      let next := if st.index + 1 < (s.routes.sequences.get q).count then st.index + 1 else 0
      let step := s.routes.steps.get ((s.routes.sequences.get q).first + next)
      ∃ t, exec (.sequenceStep n) s = .next t ∧ ChangesOnly [.words, .signs, .reports, .replies] s t ∧
        s.sendsNoReport t ∧ t.sign n = { s.sign n with step := some ⟨next, step.duration⟩ } ∧
        (∀ m, m ≠ n → t.sign m = s.sign m) ∧
        (s.evacuate = true → c.chosenFace (s.sign n).chosen ≠ .noExit → c.point < 256 →
          (t.point c.point).word = .sign (if step.kind = .dark then .dark else c.chosenFace (s.sign n).chosen))) ∧
    (1 < st.scans → ∃ t, exec (.sequenceStep n) s = .next t ∧ ChangesOnly [.reports, .replies] s t ∧ s.sendsNoReport t))

/-! ## Emergency luminaires (11) -/

/-- CFG_LAMP makes a lamp record in its start state, changes the group and maintained of one whose group and present
group are not under test, or removes one and ends its conditions; CFG_LAMP_GROUP writes the length alone. From R157: the
mode of every LAMP point, by the first line that holds. -/
def Obligations.LampsAreConfiguredAndCommanded : Prop :=
  (∀ (tag : Byte) (p : Nat) (s : State), s.link.free = true → s.cfgRefusal = none → isPoint p = true →
    s.isKind p .lamp = true → s.alarms.Sound →
    let takes := fun (x : Option LampSetting) (y : Option Lamp) (ps : List Part) =>
      ∃ t, exec (.cfgLamp tag p x) s = .next t ∧ t.replies (.cfgLamp tag p x) .ok .none ∧ ChangesOnly ps s t ∧
        t.lamp p = y ∧ (∀ q, q ≠ p → t.lamp q = s.lamp q) ∧ (t.point p).word = .lamp (t.lampMode p) ∧
        (x = none → ∀ a ∈ t.alarms.entries, a.kind = .lampFault ∨ a.kind = .batteryFault → a.obj = .point p →
          a.active = false)
    (∀ c : LampSetting, c.group ≤ 3 → s.lamp p = none →
      takes (some c) (some ⟨c, false, .none, false, .none⟩) [.words, .lamps, .reports, .replies]) ∧
    (∀ (c : LampSetting) (l : Lamp), c.group ≤ 3 → s.lamp p = some l →
      c.group = l.cfg.group ∨ ((s.lampGroup c.group).underTest = false ∧ (s.lampGroup l.cfg.group).underTest = false) →
      takes (some c) (some { l with cfg := c }) [.words, .lamps, .reports, .replies]) ∧
    (∀ l : Lamp, s.lamp p = some l → (s.lampGroup l.cfg.group).underTest = false →
      takes none none [.words, .alarms, .lamps, .reports, .replies])) ∧
  (∀ (tag : Byte) (g length : Nat) (s : State), s.link.free = true → s.cfgRefusal = none → g < 4 →
    length = 3600 ∨ length = 10800 →
    ∃ t, exec (.cfgLampGroup tag g length) s = .next t ∧ t.replies (.cfgLampGroup tag g length) .ok .none ∧
      ChangesOnly [.lampGroups, .reports, .replies] s t ∧ s.sendsNoReport t ∧
      t.lampGroup g = { s.lampGroup g with length := length } ∧ ∀ h, h ≠ g → t.lampGroup h = s.lampGroup h) ∧
  (∀ (p : Nat) (s : State),
    (s.evacuate = true ∨ s.fire.mainsOk.level = false → s.lampMode p = .emergency) ∧
    (s.evacuate = false → s.fire.mainsOk.level = true →
      (∀ l, s.lamp p = some l →
        ((s.lampGroup l.cfg.group).state = .running → l.included = true → l.outcome ≠ .fail → s.lampMode p = .test) ∧
        (¬((s.lampGroup l.cfg.group).state = .running ∧ l.included = true ∧ l.outcome ≠ .fail) →
          s.lampMode p = if l.cfg.maintained = true ∧ s.zoneMode (s.point p).cfg.zone ≠ .set then .on else .off)) ∧
      (s.lamp p = none → s.lampMode p = .off)))

/-- START_TEST of an IDLE group, with mains, no EVACUATE and no other test: RUNNING for the group's length, every lamp
that is not isolated included, those whose point is not NORMAL failed at once; LAMP_TEST STARTED goes first, with no
lamp failed yet (log 37), and every LAMP_TEST carries the last result (log 47) and the number of lamps failed (log 54).
SUSPEND_TEST and RESUME_TEST keep what remains; STOP_TEST of a group under test leaves it in RECHARGE for 86400 s,
ABORTED, its remaining and suspended seconds as they stood (log 48), with no lamp included. Each LAMP point then carries
its mode, and no other group moves. -/
def Obligations.LampTestsStartSuspendResumeStop : Prop :=
  ∀ (tag : Byte) (g : Nat) (s : State), s.link.free = true → g < 4 → s.roomFor 1 →
    let x := s.lampGroup g
    let ready := s.evacuate = false ∧ s.fire.mainsOk.level = true ∧ ∀ h < 4, h ≠ g → (s.lampGroup h).underTest = false
    let takes := fun (i : Instr) (y : LampGroup) (cause : TestCause) (lamp : Nat → Lamp → Lamp) (failed : Nat) =>
      ∃ t rs, exec i s = .next t ∧ t.replies i .ok .none ∧
        ChangesOnly [.words, .lamps, .lampGroups, .reports, .replies] s t ∧ t.lampGroup g = y ∧
        (∀ h, h ≠ g → t.lampGroup h = s.lampGroup h) ∧
        (∀ p, isPoint p = true → ∀ l, s.lamp p = some l → t.lamp p = some (if l.cfg.group = g then lamp p l else l)) ∧
        (∀ p, isPoint p = true → s.lamp p = none → t.lamp p = none) ∧
        (∀ p < 256, s.isKind p .lamp = true → (t.point p).word = .lamp (t.lampMode p)) ∧
        t.link.outbox = s.link.outbox ++ ⟨s.now, .lampTest g y.state cause y.remaining.left failed none y.last⟩ :: rs
    (x.state = .idle → ready →
      takes (.startTest tag g) { x with state := .running, remaining := ⟨x.length, 0⟩, suspended := 0, suspendedTicks := 0 }
        .started (fun p l => { l with
          included := !s.effective p
          outcome := if s.effective p = false ∧ (s.point p).health ≠ .normal then .fail else .none }) 0) ∧
    (x.state = .running →
      takes (.suspendTest tag g) { x with state := .suspended } .suspended (fun _ l => l) (s.failedLamps g)) ∧
    (x.state = .suspended → ready →
      takes (.resumeTest tag g) { x with state := .running } .resumed (fun _ l => l) (s.failedLamps g)) ∧
    (x.state = .running ∨ x.state = .suspended →
      takes (.stopTest tag g) { x with state := .recharge, recharge := some ⟨86400, 0⟩, last := .aborted } .aborted
        (fun _ l => { l with included := false }) (s.failedLamps g))

/-- The limit of a suspension abandons the test as STOP_TEST does, its remaining and suspended seconds staying as they
stood (log 48); a completed test records PASS for every lamp included that did not fail, ending its battery fault of
TEST and that BATTERY_FAULT entry and no other, with the result PASS when no lamp failed and FAIL otherwise, leaves no
lamp included (log 24) and enters RECHARGE with its suspended seconds as they stood (log 48); at the end of the recharge
the group is IDLE with its last result. Each is reported as LAMP_TEST, ABORTED, COMPLETED or RECHARGED, with the last
result (log 47), the count of lamps failed (log 54) and after the entries that end (log 46). No other group moves.
SUSPENSION_LIMIT outside SUSPENDED changes nothing (log 4). -/
def Obligations.LampTestsEndByTheirTimers : Prop :=
  ∀ (g : Nat) (s : State), g < 4 →
    let x := s.lampGroup g
    let passes := fun (p : Nat) => isPoint p = true ∧ ∃ l, s.lamp p = some l ∧ l.cfg.group = g ∧ l.included = true ∧
      l.outcome ≠ .fail ∧ l.battery = .test
    let faults := s.alarms.entries.countP fun a => a.kind == .batteryFault && a.active
    let ends := fun (i : Instr) (cause : TestCause) (y : LampGroup) (lamp : Lamp → Lamp) =>
      ∃ t, exec i s = .next t ∧ ChangesOnly [.words, .alarms, .lamps, .lampGroups, .reports, .replies] s t ∧
        t.lampGroup g = y ∧ (∀ h, h ≠ g → t.lampGroup h = s.lampGroup h) ∧
        (∀ p, isPoint p = true → t.lamp p = (s.lamp p).map fun l => if l.cfg.group = g then lamp l else l) ∧
        (y.state = .recharge → ∀ p < 256, s.isKind p .lamp = true → (t.point p).word = .lamp (t.lampMode p)) ∧
        (cause ≠ .completed → t.alarms = s.alarms) ∧
        (cause = .completed → s.alarms.Sound → ∀ p, passes p →
          ∀ a ∈ t.alarms.entries, a.kind = .batteryFault → a.obj = .point p → a.active = false) ∧
        (∀ a, a.kind ≠ .batteryFault ∨ (∀ p, passes p → a.obj ≠ .point p) →
          (a ∈ t.alarms.entries ↔ a ∈ s.alarms.entries)) ∧
        (s.roomFor (faults + 1) → ∃ rs,
          t.link.outbox = s.link.outbox ++ rs ++
            [⟨s.now, .lampTest g y.state cause y.remaining.left (s.failedLamps g) none y.last⟩] ∧
          (t.alarms = s.alarms → rs = []) ∧
          ∀ r ∈ rs, ∃ p place now removed, passes p ∧
            r = ⟨s.now, .alarmEntry .cleared .batteryFault (.point p) place now removed⟩)
    (x.state = .suspended →
      ends (.suspensionLimit g) .aborted { x with state := .recharge, recharge := some ⟨86400, 0⟩, last := .aborted }
        fun l => { l with included := false }) ∧
    (x.state = .running →
      ends (.testCompleted g) .completed
        { x with
          state := .recharge, remaining := ⟨0, 0⟩, recharge := some ⟨86400, 0⟩,
          last := if s.failedLamps g = 0 then .pass else .fail }
        fun l => { l with
          included := false
          outcome := if l.included = true ∧ l.outcome ≠ .fail then .pass else l.outcome
          battery := if l.included = true ∧ l.outcome ≠ .fail ∧ l.battery = .test then .none else l.battery }) ∧
    (x.state = .recharge → ends (.rechargeExpiry g) .recharged { x with state := .idle, recharge := none } fun l => l) ∧
    (x.state ≠ .suspended →
      ∃ t, exec (.suspensionLimit g) s = .next t ∧ ChangesOnly [.reports, .replies] s t ∧ s.sendsNoReport t)

/-- A good reply of a LAMP point that is not isolated (R158, R160): LAMP_FAULT follows lamp good, BATTERY_FAULT a
battery reported FAILED, and a lamp included in a RUNNING test that reports lamp good no, or a battery that is not GOOD,
fails, reported with the last result of its group (log 47) and the number of its lamps failed (log 54), carrying the
mode that leaves it, with battery fault TEST in the second case. The loss of a LAMP point, MISSING or WRONG_KIND, fails
it likewise and moves no fault. Under isolation, or with no lamp record, a reply moves nothing. A good reply of a bound
SIGN point: SIGN_FAULT follows face good (R154), and begins at no reply under isolation, which clears it. -/
def Obligations.LampAndSignRepliesMoveTheirFaults : Prop :=
  ∀ (l : LoopId) (e : Exchange) (s : State), (s.scanner l).exchange = some e → e.point < 256 →
    (s.point e.point).cfg.configured = true → s.nextPoint l e.point ≠ none ∨ s.doors.latchStartUp = false →
    s.alarms.Sound → s.alarms.otherCount < 37 →
    let p := e.point
    let placed := fun (t : State) (k : AlarmKind) =>
      ∃ a ∈ t.alarms.entries, a.kind = k ∧ a.obj = .point p ∧ a.active = true ∧ a.accepted = false ∧ a.last = s.now
    let ended := fun (t : State) (k : AlarmKind) => ∀ a ∈ t.alarms.entries, a.kind = k → a.obj = .point p → a.active = false
    let others := fun (t : State) => (∀ q, q ≠ p → t.lamp q = s.lamp q) ∧ t.lamps.groups = s.lamps.groups
    let fails := fun (t : State) (x : Lamp) =>
      (t.point p).word = .lamp (t.lampMode p) ∧
        (s.roomFor 5 → ⟨s.now, .lampTest x.cfg.group .running .lampFailed (s.lampGroup x.cfg.group).remaining.left
          (t.failedLamps x.cfg.group) (some p) (s.lampGroup x.cfg.group).last⟩ ∈ t.link.outbox)
    ((s.point p).cfg.kind = .lamp → ∀ x, s.lamp p = some x →
      let tested := (s.lampGroup x.cfg.group).state = .running ∧ x.included = true ∧ x.outcome ≠ .fail
      let lost : Lamp := { x with outcome := if tested then .fail else x.outcome }
      (s.effective p = false → ∀ (good : Bool) (b : Battery),
        let fail := tested ∧ (good = false ∨ b ≠ .good)
        ∃ t, exec (.pointReply l (.input (.lamp good b))) s = .next t ∧ others t ∧
          t.lamp p = some { x with
            lampFault := !good
            outcome := if fail then .fail else x.outcome
            battery := if fail ∧ b ≠ .good then .test
              else if b = .failed ∧ x.battery = .none then .failed
              else if b ≠ .failed ∧ x.battery = .failed then .none else x.battery } ∧
          (good = false → x.lampFault = false → placed t .lampFault) ∧
          (good = true → x.lampFault = true → ended t .lampFault) ∧
          ((b = .failed ∧ x.battery = .none) ∨ (fail ∧ b ≠ .good) → placed t .batteryFault) ∧
          (b ≠ .failed → x.battery = .failed → ¬(fail ∧ b ≠ .good) → ended t .batteryFault) ∧
          (fail → fails t x)) ∧
      (s.effective p = true → ∀ good b,
        ∃ t, exec (.pointReply l (.input (.lamp good b))) s = .next t ∧ t.lamps = s.lamps) ∧
      (((s.point p).health ≠ .missing → 2 ≤ (s.point p).misses →
          ∃ t, exec (.replyWindowExpiry l) s = .next t ∧ t.lamp p = some lost ∧ others t ∧ (tested → fails t x)) ∧
        ((s.point p).health ≠ .wrongKind → ∀ a : Answer, (∀ i, a = .input i → i.kind ≠ .lamp) →
          ∃ t, exec (.pointReply l a) s = .next t ∧ t.lamp p = some lost ∧ others t ∧ (tested → fails t x)))) ∧
    ((s.point p).cfg.kind = .lamp → s.lamp p = none → ∀ good b,
      ∃ t, exec (.pointReply l (.input (.lamp good b))) s = .next t ∧ t.lamps = s.lamps) ∧
    ((s.point p).cfg.kind = .sign → ∀ n, s.signOf p = some n →
      (∀ good : Bool,
        ∃ t, exec (.pointReply l (.input (.sign good))) s = .next t ∧ (∀ m, m ≠ n → t.sign m = s.sign m) ∧
          t.sign n = { s.sign n with
            fault := if good then false else if s.effective p then (s.sign n).fault else true } ∧
          (good = false → (s.sign n).fault = false → s.effective p = false → placed t .signFault) ∧
          (good = true → (s.sign n).fault = true → ended t .signFault)) ∧
      (s.link.free = true → isPoint p = true → s.effective p = false → s.inAlarm p = false → ∀ tag m,
        ∃ t, exec (.isolate tag (.point p) (.temporary m)) s = .next t ∧
          t.sign n = { s.sign n with fault := false } ∧ ended t .signFault))

/-! ## Invariants that every step keeps -/

/-- The state right after reset meets every invariant that the steps keep: the alarm list, the link, the call queue, the
channels, the egress doors, the routes, the output words, no group SETTING in an evacuation and no silence outside one.
-/
def Obligations.ResetIsSound : Prop :=
  State.reset.alarms.Sound ∧ State.reset.link.Sound ∧ State.reset.CallsSound ∧ State.reset.ChannelsUsed ∧
    State.reset.EgressStandsFree ∧ State.reset.RoutesSound ∧ State.reset.WordsSound ∧
    State.reset.NoneSettingInEvacuation ∧ State.reset.fire.silenced = false

/-- Every step, from any state, keeps the alarm list sound: at most 24 FIRE entries and 40 others, never two of one
identity, FIRE entries ACTIVE and accepted entries ACTIVE; and the control link sound: at most 4 held frames, 96 queued
reports and a count of 65535. -/
def Obligations.AlarmListAndLinkSoundKeptByStep : Prop :=
  ∀ s t : State, step s = .next t → (s.alarms.Sound → t.alarms.Sound) ∧ (s.link.Sound → t.link.Sound)

/-- From R130: every step keeps the call queue sound: at most 16 records in order of admission, never two of one number
or one point, no speech channel held twice, and no point that holds both a record and a deferred press. From R135 and
R140: every step from a sound queue leaves no channel free while a record is eligible, and, while EVACUATE is active, no
HELP call on a channel while a REFUGE call is WAITING. -/
def Obligations.CallQueueAndChannelsSoundKeptByStep : Prop :=
  (∀ s t : State, s.CallsSound → step s = .next t → t.CallsSound) ∧
  (∀ s t : State, s.CallsSound → s.ChannelsUsed → step s = .next t → t.ChannelsUsed)

/-- From R108: every step keeps the release latch holding EVAC while EVACUATE is active, and every configured egress
door holding EVAC, and so commanded FREE, while the latch holds any cause. From R87: every step keeps every group out of
SETTING while EVACUATE is active; and a step that begins and ends with EVACUATE active moves no group's mode, no
segment's remaining time and no retry timer. From R56: every step keeps the silenced flag no while EVACUATE is inactive.
-/
def Obligations.EvacuationPromisesKeptByStep : Prop :=
  (∀ s t : State, s.EgressStandsFree → step s = .next t →
    t.EgressStandsFree ∧
      (t.latched = true →
        ∀ d < 32, (t.door d).configured = true → (t.door d).cfg.egress = true → (t.door d).causes.lock = .free)) ∧
  (∀ s t : State, step s = .next t →
    ((s.fire.silenced = true → s.evacuate = true) → t.fire.silenced = true → t.evacuate = true) ∧
      (s.NoneSettingInEvacuation → t.NoneSettingInEvacuation ∧
        (s.evacuate = true → t.evacuate = true →
          ∀ g < 8, (t.group g).mode = (s.group g).mode ∧ (t.group g).current = (s.group g).current ∧
            (t.group g).retry = (s.group g).retry)))

/-- From R146 and R150: after every step every exit is usable exactly when it is configured, not blocked, its zone, if
it has one, is not CONFIRMED and its door, if it has one, is not jammed; and every configured sign has chosen the first
of its entries whose exit is usable and none of whose path's zones is CONFIRMED, or none when there is no such entry. -/
def Obligations.RoutesSoundKeptByStep : Prop :=
  ∀ s t : State, s.RoutesSound → step s = .next t → t.RoutesSound ∧
    (∀ e < 12, (t.exit e).usable = true ↔ ∃ c, (t.exit e).cfg = some c ∧ (t.exit e).blocked = false ∧
      (∀ z, c.zone = some z → (t.zone z).fire ≠ .confirmed) ∧ ∀ d, c.door = some d → (t.door d).jammed = false) ∧
    ∀ n < 64, ∀ c, (t.sign n).cfg = some c →
      let opens := fun (r : RouteEntry) => (t.exit r.exit).usable = true ∧ ∀ z ∈ r.path, (t.zone z).fire ≠ .confirmed
      (∀ k, (t.sign n).chosen = some k →
        ∃ r, c.entries[k]? = some r ∧ opens r ∧ ∀ j < k, ∀ y, c.entries[j]? = some y → ¬ opens y) ∧
      ((t.sign n).chosen = none → ∀ r ∈ c.entries, ¬ opens r)

/-- Every step keeps every point's output word as the block that owns its kind commands it (R6): the alarm indicator of
a detector in ALARM and of a latched MANUAL point (R36, R45), the lock and holder of a bound door (R94, R107), the call
state or deferred press of a CALL point (R131), the face of a bound sign (R151), the mode of a lamp (R157), DARK, FREE
and DROP where nothing is bound. The premises are the sound call queue and what every state since a start has: bindings
that fit, in the part, its image and a save in progress, and calls, presses, detectors and latched operations at points
of their kinds; all of it is kept. The empty word of a PRESENCE and of an unconfigured point is the model's (log 25). -/
def Obligations.OutputWordsSoundKeptByStep : Prop :=
  ∀ s t : State, s.CallsSound → s.WordsSound → step s = .next t → t.WordsSound
end

