-- ==== Sys2Proof/Laws/AlarmSound.lean ====
section
/-! SUPPORT. Soundness of the alarm list: it depends on the identities of the entries alone, and every operation of the
list keeps it. -/

namespace Sys2Proof.Machine

/-- The identities of a list of entries, in order. -/
def Alarms.identities (a : Alarms) : List (AlarmKind × Obj) := a.entries.map Entry.identity

/-- An identity is of class FIRE. -/
def isFireIdentity (i : AlarmKind × Obj) : Bool := kindClass i.1 == .fire

theorem Alarms.fireCount_eq (a : Alarms) : a.fireCount = a.identities.countP isFireIdentity := by
  simp only [Alarms.fireCount, Alarms.identities, List.countP_map]; rfl

theorem Alarms.otherCount_eq (a : Alarms) : a.otherCount = a.identities.countP fun i => !isFireIdentity i := by
  simp only [Alarms.otherCount, Alarms.identities, List.countP_map]; rfl

/-- A list whose identities are some of those of a sound list, in the same order, and whose entries are proper, is sound. -/
theorem Alarms.Sound.of_sublist {a b : Alarms} (h : a.Sound) (hs : b.identities.Sublist a.identities)
    (hp : ∀ e ∈ b.entries, e.Proper) : b.Sound := by
  obtain ⟨h₁, h₂, h₃, _⟩ := h
  refine ⟨?_, ?_, List.Nodup.sublist hs h₃, hp⟩
  · rw [Alarms.fireCount_eq] at h₁ ⊢; exact (hs.countP_le (p := isFireIdentity)).trans h₁
  · rw [Alarms.otherCount_eq] at h₂ ⊢; exact (hs.countP_le (p := fun i => !isFireIdentity i)).trans h₂

/-- An entry put in the place of one of the same identity leaves the identities as they were. -/
theorem identities_set {a : Alarms} {i : Nat} {e : Entry}
    (h : ∀ x, a.entries[i]? = some x → e.identity = x.identity) :
    (a.entries.set i e).map Entry.identity = a.identities := by
  rw [Alarms.identities, List.map_set]
  apply List.ext_getElem?
  intro j
  by_cases hj : i = j
  · subst hj
    by_cases hi : i < a.entries.length
    · simp [hi, h _ (List.getElem?_eq_getElem hi)]
    · rw [List.getElem?_set_self', List.getElem?_map]
      simp [List.getElem?_eq_none (Nat.le_of_not_lt hi)]
  · simp [hj]

/-- A new identity joins a sound list that has room for its class. -/
theorem Alarms.Sound.append {a b : Alarms} {e : Entry} (h : a.Sound) (he : b.entries = a.entries ++ [e])
    (hroom : a.room (kindClass e.kind) = true) (hnew : e.identity ∉ a.identities) (hp : e.Proper) : b.Sound := by
  obtain ⟨h₁, h₂, h₃, h₄⟩ := h
  have hi : b.identities = a.identities ++ [e.identity] := by simp [Alarms.identities, he]
  refine ⟨?_, ?_, ?_, by rw [he]; simpa [or_imp, forall_and] using ⟨h₄, hp⟩⟩
  · rw [Alarms.fireCount_eq, hi, List.countP_append]
    rw [Alarms.room] at hroom
    rw [Alarms.fireCount_eq] at h₁
    by_cases hc : kindClass e.kind = .fire
    · rw [if_pos hc, decide_eq_true_eq, Alarms.fireCount_eq] at hroom
      have := List.countP_le_length (p := isFireIdentity) (l := [e.identity])
      rw [List.length_singleton] at this; omega
    · have : isFireIdentity e.identity = false := by simpa [isFireIdentity, Entry.identity] using hc
      simp [this]; omega
  · rw [Alarms.otherCount_eq, hi, List.countP_append]
    rw [Alarms.room] at hroom
    rw [Alarms.otherCount_eq] at h₂
    by_cases hc : kindClass e.kind = .fire
    · have : isFireIdentity e.identity = true := by simpa [isFireIdentity, Entry.identity] using hc
      simp [this]; omega
    · rw [if_neg hc, decide_eq_true_eq, Alarms.otherCount_eq] at hroom
      have := List.countP_le_length (p := fun i => !isFireIdentity i) (l := [e.identity])
      rw [List.length_singleton] at this; omega
  · show b.identities.Nodup
    rw [hi, List.nodup_append]
    exact ⟨h₃, by simp, by rintro x hx y hy rfl; simp at hy; exact hnew (hy ▸ hx)⟩

theorem Entry.names_iff (k : AlarmKind) (o : Obj) (e : Entry) : Entry.names k o e = true ↔ e.identity = (k, o) := by
  simp [Entry.names, Entry.identity]

/-- The place the search for an identity gives holds that identity. -/
theorem Alarms.find_some {a : Alarms} {k : AlarmKind} {o : Obj} {i : Nat} (h : a.find k o = some i) :
    ∃ e, a.entries[i]? = some e ∧ e.identity = (k, o) := by
  unfold Alarms.find at h
  obtain ⟨hi, hn, _⟩ := List.findIdx?_eq_some_iff_getElem.1 h
  exact ⟨_, List.getElem?_eq_getElem hi, (Entry.names_iff _ _ _).1 hn⟩

theorem Alarms.find_none {a : Alarms} {k : AlarmKind} {o : Obj} (h : a.find k o = none) : (k, o) ∉ a.identities := by
  unfold Alarms.find at h
  rw [List.findIdx?_eq_none_iff] at h
  intro hm
  obtain ⟨e, he, hid⟩ := List.mem_map.1 hm
  have := h e he
  rw [(Entry.names_iff k o e).2 hid] at this
  cases this

theorem Alarms.entry_at {a : Alarms} {i : Nat} {e : Entry} (h : a.entries[i]? = some e) :
    a.entries.getD i default = e := by
  simp [List.getD_eq_getElem?_getD, h]

/-- The alarm list after a raise: recurrence, new entry, or overflow mark (R65, R66). -/
def Alarms.raised (a : Alarms) (now : Nat) (active : Bool) (k : AlarmKind) (o : Obj) : Alarms :=
  match a.find k o with
  | some i => { a with entries := a.entries.set i ((a.entries.getD i default).recur now active) }
  | none =>
    if a.room (kindClass k) then { a with entries := a.entries ++ [⟨k, o, active, false, now, now, 1⟩] }
    else a.mark (kindClass k)

/-- The entries a place of the list may take: the entry there changed, and the others as they were. -/
theorem proper_set {a : Alarms} (h : a.Sound) {i : Nat} {e : Entry} (he : e.Proper) :
    ∀ x ∈ a.entries.set i e, x.Proper := by
  intro x hx
  obtain h' | rfl := List.mem_or_eq_of_mem_set hx
  · exact h.2.2.2 x h'
  · exact he

theorem Entry.Proper.recur {e : Entry} (h : e.Proper) (t : Nat) {active : Bool}
    (ha : e.isFire = true → active = true) : (e.recur t active).Proper := by
  obtain ⟨_, _, h₃, _⟩ := h
  refine ⟨ha, by simp [Entry.recur], ?_, ?_⟩
  · show 1 ≤ min 255 (e.occurrences + 1); omega
  · show min 255 (e.occurrences + 1) ≤ 255; omega

/-- A raise keeps the list sound; a FIRE condition is raised ACTIVE. -/
theorem Alarms.Sound.raised {a : Alarms} (h : a.Sound) (now : Nat) {active : Bool} {k : AlarmKind} (o : Obj)
    (ha : kindClass k = .fire → active = true) : (a.raised now active k o).Sound := by
  unfold Alarms.raised
  split
  · next i hi =>
    obtain ⟨e, he, hid⟩ := Alarms.find_some hi
    have hids : ((a.entries.set i ((a.entries.getD i default).recur now active)).map Entry.identity) = a.identities :=
      identities_set fun x hx => by rw [Alarms.entry_at hx]; rfl
    refine h.of_sublist (hids ▸ List.Sublist.refl _) (proper_set h ?_)
    rw [Alarms.entry_at he]
    refine (h.2.2.2 e (List.mem_of_getElem? he)).recur now fun hf => ha ?_
    have : e.kind = k := congrArg Prod.fst hid
    rw [← this]; simpa [Entry.isFire] using hf
  · next hn =>
    split
    · next hr =>
      exact h.append rfl hr (Alarms.find_none hn)
        ⟨fun hf => ha (by simpa [Entry.isFire] using hf), by simp, Nat.le_refl 1, (by show 1 ≤ 255; omega)⟩
    · cases kindClass k <;> exact h

/-- The alarm list after the end of a condition (R67, R68, R70). -/
def Alarms.ended (a : Alarms) (k : AlarmKind) (o : Obj) : Alarms :=
  match a.find k o with
  | none => a
  | some i =>
    let e := a.entries.getD i default
    if !e.active || kindClass k == .fire then a
    else if e.accepted then { a with entries := a.entries.eraseIdx i }
    else { a with entries := a.entries.set i { e with active := false } }

theorem Alarms.Sound.ended {a : Alarms} (h : a.Sound) (k : AlarmKind) (o : Obj) : (a.ended k o).Sound := by
  unfold Alarms.ended
  split
  · exact h
  · next i hi =>
    obtain ⟨e, he, _⟩ := Alarms.find_some hi
    dsimp only
    rw [Alarms.entry_at he]
    split
    · exact h
    · split
      · exact h.of_sublist ((List.eraseIdx_sublist _ _).map _) fun x hx => h.2.2.2 x (List.mem_of_mem_eraseIdx hx)
      · next hc hacc =>
        have hids : ((a.entries.set i { e with active := false }).map Entry.identity) = a.identities :=
          identities_set fun x hx => by rw [he] at hx; cases hx; rfl
        refine h.of_sublist (hids ▸ List.Sublist.refl _) (proper_set h ?_)
        have hk : kindClass e.kind ≠ .fire := by
          have : e.kind = k := congrArg Prod.fst ‹e.identity = (k, o)›
          rw [this]; intro hf; simp [hf] at hc
        obtain ⟨_, _, h₃, h₄⟩ := h.2.2.2 e (List.mem_of_getElem? he)
        exact ⟨fun hf => absurd (by simpa [Entry.isFire] using hf) hk, fun ha => absurd ha hacc, h₃, h₄⟩

/-- Entries that leave a sound list, whichever they are, leave it sound. -/
theorem Alarms.Sound.filter {a : Alarms} (h : a.Sound) (p : Entry → Bool) :
    ({ a with entries := a.entries.filter p } : Alarms).Sound :=
  h.of_sublist (List.filter_sublist.map _) fun x hx => h.2.2.2 x (List.mem_of_mem_filter hx)

theorem identities_accept (sel : Entry → Bool) (es : List Entry) :
    ((es.filterMap (Entry.acceptIf sel)).map Entry.identity).Sublist (es.map Entry.identity) := by
  induction es with
  | nil => simp
  | cons e es ih =>
    have hc : Entry.acceptIf sel e = none ∨ ∃ e', Entry.acceptIf sel e = some e' ∧ e'.identity = e.identity := by
      unfold Entry.acceptIf
      split
      · split
        · exact .inr ⟨_, rfl, rfl⟩
        · exact .inl rfl
      · exact .inr ⟨_, rfl, rfl⟩
    obtain hn | ⟨e', hs, hid⟩ := hc
    · rw [List.filterMap_cons_none hn]; exact ih.cons _
    · rw [List.filterMap_cons_some hs, List.map_cons, List.map_cons, hid]; exact ih.cons_cons _

/-- Acceptance leaves a sound list sound (R69, R70). -/
theorem Alarms.Sound.accepted {a : Alarms} (h : a.Sound) (sel : Entry → Bool) :
    ({ a with entries := a.entries.filterMap (Entry.acceptIf sel) } : Alarms).Sound :=
  h.of_sublist (identities_accept sel a.entries) fun x hx => by
    obtain ⟨e, he, hx⟩ := List.mem_filterMap.1 hx
    obtain ⟨h₁, h₂, h₃, h₄⟩ := h.2.2.2 e he
    unfold Entry.acceptIf at hx
    split at hx
    · split at hx
      · next ha => cases hx; exact ⟨fun _ => ha, fun _ => ha, h₃, h₄⟩
      · cases hx
    · cases hx; exact ⟨h₁, h₂, h₃, h₄⟩

/-- A raise, in one: the list it leaves, and the report of it. -/
theorem State.raiseAs_eq (s : State) (active : Bool) (k : AlarmKind) (o : Obj) :
    ∃ b, s.raiseAs active k o = State.report { s with alarms := s.alarms.raised s.now active k o } b := by
  unfold State.raiseAs Alarms.raised
  cases s.alarms.find k o with
  | some i => exact ⟨_, rfl⟩
  | none =>
    dsimp only
    split
    · exact ⟨_, rfl⟩
    · exact ⟨_, rfl⟩

/-- The end of a condition, in one: nothing, or the list it leaves and the report of it. -/
theorem State.endAlarm_eq (s : State) (k : AlarmKind) (o : Obj) :
    s.endAlarm k o = s ∨ ∃ b, s.endAlarm k o = State.report { s with alarms := s.alarms.ended k o } b := by
  unfold State.endAlarm Alarms.ended
  cases s.alarms.find k o with
  | none => exact .inl rfl
  | some i =>
    dsimp only
    split
    · exact .inl rfl
    · split
      · exact .inr ⟨_, rfl⟩
      · exact .inr ⟨_, rfl⟩

end Sys2Proof.Machine
end

