-- ==== Sys2Proof/Laws/Table.lean ====
section
/-! SUPPORT. What reading a numbered table gives after each way of writing it, and the two bounds of a clamp. -/

namespace Sys2Proof

variable {α β : Type} {n : Nat}

theorem Table.get_put_self [Inhabited α] (t : Table α n) {i : Nat} (h : i < n) (x : α) : (t.put i x).get i = x := by
  have : i < t.rows.length := by rw [t.size]; exact h
  simp [Table.get, Table.put, List.getD_eq_getElem?_getD, this]

theorem Table.get_put_ne [Inhabited α] (t : Table α n) {i j : Nat} (h : i ≠ j) (x : α) : (t.put i x).get j = t.get j := by
  simp [Table.get, Table.put, List.getD_eq_getElem?_getD, h]

theorem Table.get_put_out [Inhabited α] (t : Table α n) {i : Nat} (h : n ≤ i) (x : α) (j : Nat) :
    (t.put i x).get j = t.get j := by
  have : t.rows.length ≤ i := by rw [t.size]; exact h
  simp [Table.get, Table.put, List.set_eq_of_length_le this]

theorem Table.get_fill [Inhabited α] {i : Nat} (h : i < n) (x : α) : (Table.fill n x).get i = x := by
  simp [Table.get, Table.fill, List.getD_eq_getElem?_getD, h]

theorem getElem?_mapFrom (f : Nat → α → β) (k i : Nat) (xs : List α) :
    (mapFrom f k xs)[i]? = (xs[i]?).map (f (k + i)) := by
  induction xs generalizing k i with
  | nil => simp [mapFrom]
  | cons x xs ih =>
    cases i with
    | zero => simp [mapFrom]
    | succ i => simp [mapFrom, ih, show k + 1 + i = k + (i + 1) by omega]

theorem Table.get_map [Inhabited α] [Inhabited β] (f : Nat → α → β) (t : Table α n) {i : Nat} (h : i < n) :
    (t.map f).get i = f i (t.get i) := by
  have : i < t.rows.length := by rw [t.size]; exact h
  simp [Table.get, Table.map, List.getD_eq_getElem?_getD, getElem?_mapFrom, this]

theorem Table.get_out [Inhabited α] (t : Table α n) {i : Nat} (h : n ≤ i) : t.get i = default := by
  have : t.rows.length ≤ i := by rw [t.size]; exact h
  simp [Table.get, List.getD_eq_getElem?_getD, this]

/-- Two tables whose records agree number by number are one table. -/
theorem Table.ext_get [Inhabited α] {t u : Table α n} (h : ∀ i, t.get i = u.get i) : t = u := by
  cases t with | mk xs hx => cases u with | mk ys hy =>
  have : xs = ys := by
    apply List.ext_getElem (by rw [hx, hy])
    intro i h₁ h₂
    simpa [Table.get, List.getD_eq_getElem?_getD, h₁, h₂] using h i
  subst this; rfl

/-- The records of a table, read number by number. -/
theorem Table.rows_eq_range [Inhabited α] (t : Table α n) : t.rows = (List.range n).map t.get := by
  apply List.ext_getElem (by simp [t.size])
  intro i h _
  simp [Table.get, List.getD_eq_getElem?_getD, h]

theorem clamp_bounds {lo hi n : Nat} (h : lo ≤ hi) : lo ≤ clamp lo hi n ∧ clamp lo hi n ≤ hi := by
  unfold clamp; split
  · omega
  · split <;> omega

theorem clamp_id {lo hi n : Nat} (h₁ : lo ≤ n) (h₂ : n ≤ hi) : clamp lo hi n = n := by
  unfold clamp; split
  · omega
  · split <;> omega

end Sys2Proof
end

