-- ==== Sys2Proof/Laws/Change.lean ====
section
/-! SUPPORT. `Changes ps s t`: going from `s` to `t` touches no part but those of `ps`, and keeps the bounds of the alarm list,
of the control link and of the call queue. One lemma for each shared way of writing the state says which parts it
touches. -/

namespace Sys2Proof.Machine

/-- `t` follows from `s` by writes to the parts `ps`, and every bound that held of `s` holds of `t`. -/
structure Changes (ps : List Part) (s t : State) : Prop where
  only : ChangesOnly ps s t
  alarms : s.alarms.Sound → t.alarms.Sound
  link : s.link.Sound → t.link.Sound
  calls : s.calls.queue.length ≤ 16 → t.calls.queue.length ≤ 16

theorem Part.same_refl (q : Part) (s : State) : q.same s s := by cases q <;> simp [Part.same]

theorem Part.same_trans {q : Part} {s t u : State} (h : q.same s t) (k : q.same t u) : q.same s u := by
  cases q <;> simp_all [Part.same]

theorem ChangesOnly.refl (ps : List Part) (s : State) : ChangesOnly ps s s := fun q _ => q.same_refl s

theorem ChangesOnly.trans {ps : List Part} {s t u : State} (h : ChangesOnly ps s t) (k : ChangesOnly ps t u) :
    ChangesOnly ps s u := fun q hq => Part.same_trans (h q hq) (k q hq)

theorem ChangesOnly.mono {ps qs : List Part} {s t : State} (h : ChangesOnly ps s t) (hs : ∀ q ∈ ps, q ∈ qs) :
    ChangesOnly qs s t := fun q hq => h q fun hp => hq (hs q hp)

theorem Changes.refl (ps : List Part) (s : State) : Changes ps s s := ⟨.refl ps s, id, id, id⟩

theorem Changes.trans {ps : List Part} {s t u : State} (h : Changes ps s t) (k : Changes ps t u) : Changes ps s u :=
  ⟨h.only.trans k.only, k.alarms ∘ h.alarms, k.link ∘ h.link, k.calls ∘ h.calls⟩

theorem Changes.mono {ps qs : List Part} {s t : State} (h : Changes ps s t) (hs : ∀ q ∈ ps, q ∈ qs) : Changes qs s t :=
  ⟨h.only.mono hs, h.alarms, h.link, h.calls⟩

/-- A further operation, after what has been done so far. -/
theorem Changes.after {ps qs : List Part} {s t u : State} (h : Changes ps t u) (hs : ∀ q ∈ ps, q ∈ qs)
    (hst : Changes qs s t) : Changes qs s u := hst.trans (h.mono hs)

theorem Changes.each {ps : List Part} {f : Nat → State → State} (hf : ∀ n t, Changes ps t (f n t)) (ns : List Nat)
    (s : State) : Changes ps s (s.each ns f) := by
  unfold State.each
  induction ns generalizing s with
  | nil => exact .refl ps s
  | cons n ns ih => exact (hf n s).trans (ih (f n s))

/-- A write that touches neither the alarm list nor the control link nor the call queue. -/
theorem Changes.plain {ps : List Part} {s t : State} (h : ChangesOnly ps s t) (ha : t.alarms = s.alarms)
    (hl : t.link = s.link) (hc : t.calls = s.calls) : Changes ps s t :=
  ⟨h, fun k => ha ▸ k, fun k => hl ▸ k, fun k => hc ▸ k⟩

/-! ## Records by number -/

theorem State.putPoint_changes (s : State) (p : Nat) (x : Point) :
    Changes [.points, .presses, .words] s (s.putPoint p x) :=
  .plain (fun q hq => by cases q <;> first | exact absurd (by decide) hq | simp [Part.same, State.putPoint]) rfl rfl rfl

theorem State.point_putPoint (s : State) (p : Nat) (x : Point) (q : Nat) :
    (s.putPoint p x).point q = if p = q ∧ p < 256 then x else s.point q := by
  unfold State.point State.putPoint
  by_cases hp : p < 256
  · by_cases hq : p = q
    · subst hq; simpa [hp] using Table.get_put_self _ hp x
    · simpa [hq] using Table.get_put_ne _ hq x
  · simpa [hp] using Table.get_put_out _ (Nat.le_of_not_lt hp) x q

/-- A point record written with the word and the deferred press it held. -/
theorem State.putPoint_keeps (s : State) (p : Nat) {x : Point} (h : x.word = (s.point p).word)
    (hd : x.deferred = (s.point p).deferred) : Changes [.points] s (s.putPoint p x) := by
  refine .plain (fun q hq => ?_) rfl rfl rfl
  cases q with
  | points => exact absurd (by decide) hq
  | words => intro n; rw [State.point_putPoint]; split <;> simp_all
  | presses => intro n; rw [State.point_putPoint]; split <;> simp_all
  | _ => simp [Part.same, State.putPoint]

theorem State.setWord_changes (s : State) (p : Nat) (w : OutWord) : Changes [.words] s (s.setWord p w) := by
  refine .plain (fun q hq => ?_) rfl rfl rfl
  cases q with
  | words => exact absurd (by decide) hq
  | points => intro n; rw [State.setWord, State.point_putPoint]; split <;> simp_all
  | presses => intro n; rw [State.setWord, State.point_putPoint]; split <;> simp_all
  | _ => simp [Part.same, State.setWord, State.putPoint]

theorem State.putDetector_changes (s : State) (p : Nat) (x : Option Detector) :
    Changes [.detectors] s (s.putDetector p x) :=
  .plain (fun q hq => by cases q <;> first | exact absurd (by decide) hq | simp [Part.same, State.putDetector, State.point])
    rfl rfl rfl

theorem State.putProfile_changes (s : State) (n : Nat) (x : Profile) : Changes [.profiles] s (s.putProfile n x) :=
  .plain (fun q hq => by cases q <;> first | exact absurd (by decide) hq | simp [Part.same, State.putProfile, State.point])
    rfl rfl rfl

theorem State.putZone_changes (s : State) (z : Nat) (x : Zone) : Changes [.zones] s (s.putZone z x) :=
  .plain (fun q hq => by cases q <;> first | exact absurd (by decide) hq | simp [Part.same, State.putZone, State.point])
    rfl rfl rfl

theorem State.putGroup_changes (s : State) (g : Nat) (x : Group) : Changes [.regimes] s (s.putGroup g x) :=
  .plain (fun q hq => by cases q <;> first | exact absurd (by decide) hq | simp [Part.same, State.putGroup, State.point])
    rfl rfl rfl

theorem State.putDoor_changes (s : State) (d : Nat) (x : Door) : Changes [.doors] s (s.putDoor d x) :=
  .plain (fun q hq => by cases q <;> first | exact absurd (by decide) hq | simp [Part.same, State.putDoor, State.point])
    rfl rfl rfl

theorem State.putPair_changes (s : State) (q : Nat) (x : Pair) : Changes [.pairs] s (s.putPair q x) :=
  .plain (fun q hq => by cases q <;> first | exact absurd (by decide) hq | simp [Part.same, State.putPair, State.point])
    rfl rfl rfl

theorem State.putExit_changes (s : State) (e : Nat) (x : Exit) : Changes [.exits] s (s.putExit e x) :=
  .plain (fun q hq => by cases q <;> first | exact absurd (by decide) hq | simp [Part.same, State.putExit, State.point])
    rfl rfl rfl

theorem State.putSign_changes (s : State) (n : Nat) (x : Sign) : Changes [.signs] s (s.putSign n x) :=
  .plain (fun q hq => by cases q <;> first | exact absurd (by decide) hq | simp [Part.same, State.putSign, State.point])
    rfl rfl rfl

theorem State.putLamp_changes (s : State) (p : Nat) (x : Option Lamp) : Changes [.lamps] s (s.putLamp p x) :=
  .plain (fun q hq => by cases q <;> first | exact absurd (by decide) hq | simp [Part.same, State.putLamp, State.point])
    rfl rfl rfl

theorem State.putLampGroup_changes (s : State) (g : Nat) (x : LampGroup) :
    Changes [.lampGroups] s (s.putLampGroup g x) :=
  .plain (fun q hq => by cases q <;> first | exact absurd (by decide) hq | simp [Part.same, State.putLampGroup, State.point])
    rfl rfl rfl

theorem State.putPresence_changes (s : State) (p : Nat) (b : Bool) : Changes [.marks] s (s.putPresence p b) :=
  .plain (fun q hq => by cases q <;> first | exact absurd (by decide) hq | simp [Part.same, State.putPresence, State.point])
    rfl rfl rfl

theorem State.putDoorIntrusion_changes (s : State) (d : Nat) (b : Bool) : Changes [.marks] s (s.putDoorIntrusion d b) :=
  .plain (fun q hq => by
    cases q <;> first | exact absurd (by decide) hq | simp [Part.same, State.putDoorIntrusion, State.point]) rfl rfl rfl

theorem State.putDoorExit_changes (s : State) (d : Nat) (b : Bool) : Changes [.marks] s (s.putDoorExit d b) :=
  .plain (fun q hq => by cases q <;> first | exact absurd (by decide) hq | simp [Part.same, State.putDoorExit, State.point])
    rfl rfl rfl

theorem State.putScanner_changes (s : State) (l : LoopId) (x : Scanner) : Changes [.scanners] s (s.putScanner l x) := by
  cases l <;>
  exact .plain (fun q hq => by
    cases q <;> first | exact absurd (by decide) hq | simp [Part.same, State.putScanner, State.point]) rfl rfl rfl

/-! ## Reports, replies, the alarm list -/

theorem State.report_changes (s : State) (b : ReportBody) : Changes [.reports] s (s.report b) := by
  unfold State.report
  split
  · next h =>
    refine ⟨fun q hq => ?_, id, fun ⟨h₁, _, h₃⟩ => ⟨h₁, ?_, h₃⟩, id⟩
    · cases q <;> first | exact absurd (by decide) hq | simp [Part.same, State.point]
    · simp; omega
  · refine ⟨fun q hq => ?_, id, fun h => h, id⟩
    cases q <;> first | exact absurd (by decide) hq | simp [Part.same, State.point]

theorem State.answer_changes (s : State) (code tag : Byte) (st : Status) (b : ReplyBody) :
    Changes [.replies] s (s.answer code tag st b) :=
  ⟨fun q hq => by cases q <;> first | exact absurd (by decide) hq | simp [Part.same, State.answer, State.point], id,
    fun h => h, id⟩

theorem State.pump_changes (s : State) : Changes [.reports, .replies] s s.pump := by
  unfold State.pump
  split
  · exact .refl _ _
  · split
    · refine ⟨fun q hq => ?_, id, fun h => h, id⟩
      cases q <;> first | exact absurd (by decide) hq | simp [Part.same, State.point]
    · next hr =>
      refine ⟨fun q hq => ?_, id, fun ⟨h₁, h₂, h₃⟩ => ⟨h₁, ?_, h₃⟩, id⟩
      · cases q <;> first | exact absurd (by decide) hq | simp [Part.same, State.point]
      · rw [hr] at h₂; simp at h₂ ⊢; omega
    · exact .refl _ _

theorem State.discard_changes (s : State) : Changes [.discards] s s.discard :=
  ⟨fun q hq => by cases q <;> first | exact absurd (by decide) hq | simp [Part.same, State.discard, State.point], id,
    fun ⟨h₁, h₂, _⟩ => ⟨h₁, h₂, by show min 65535 _ ≤ 65535; omega⟩, id⟩

theorem State.hold_changes (s : State) (h : Held) : Changes [.holder, .discards] s (s.hold h) := by
  unfold State.hold
  split
  · refine ⟨fun q hq => ?_, id, fun ⟨h₁, h₂, h₃⟩ => ⟨?_, h₂, h₃⟩, id⟩
    · cases q <;> first | exact absurd (by decide) hq | simp [Part.same, State.point]
    · simp; omega
  · exact s.discard_changes.mono (by decide)

/-- The alarm list takes a list as sound as its own. -/
theorem Changes.alarmList (s : State) (a : Alarms) (h : s.alarms.Sound → a.Sound) :
    Changes [.alarms] s { s with alarms := a } :=
  ⟨fun q hq => by cases q <;> first | exact absurd (by decide) hq | simp [Part.same, State.point], h, id, id⟩

theorem State.raiseAs_changes (s : State) {active : Bool} {k : AlarmKind} (o : Obj)
    (ha : kindClass k = .fire → active = true) : Changes [.alarms, .reports] s (s.raiseAs active k o) := by
  obtain ⟨b, hb⟩ := s.raiseAs_eq active k o
  rw [hb]
  exact (State.report_changes _ b).after (by decide)
    ((Changes.alarmList s _ fun h => h.raised _ _ ha).mono (by decide))

theorem State.raise_changes (s : State) (k : AlarmKind) (o : Obj) : Changes [.alarms, .reports] s (s.raise k o) :=
  s.raiseAs_changes o fun _ => rfl

/-- A condition that ends as it begins is no FIRE condition (R67). -/
theorem State.raiseAndEnd_changes (s : State) {k : AlarmKind} (o : Obj) (hk : kindClass k ≠ .fire) :
    Changes [.alarms, .reports] s (s.raiseAndEnd k o) := s.raiseAs_changes o fun h => absurd h hk

theorem State.endAlarm_changes (s : State) (k : AlarmKind) (o : Obj) :
    Changes [.alarms, .reports] s (s.endAlarm k o) := by
  obtain h | ⟨b, h⟩ := s.endAlarm_eq k o
  · rw [h]; exact .refl _ _
  · rw [h]
    exact (State.report_changes _ b).after (by decide)
      ((Changes.alarmList s _ fun h => h.ended _ _).mono (by decide))

theorem State.endAll_changes (s : State) (ids : List (AlarmKind × Obj)) :
    Changes [.alarms, .reports] s (s.endAll ids) := by
  unfold State.endAll
  induction ids generalizing s with
  | nil => exact .refl _ _
  | cons i ids ih => exact (s.endAlarm_changes i.1 i.2).trans (ih _)

theorem State.clearObject_changes (s : State) (p : Nat) : Changes [.alarms, .reports] s (s.clearObject p) :=
  s.endAll_changes _

theorem State.clearFaults_changes (s : State) (p : Nat) : Changes [.alarms, .reports] s (s.clearFaults p) :=
  s.endAll_changes _

theorem State.reply_changes (s : State) (i : Instr) (st : Status) (b : ReplyBody) :
    Changes [.replies] s (s.reply i st b) := s.answer_changes _ _ _ _

theorem State.refuse_changes (s : State) (i : Instr) (st : Status) : Changes [.replies] s (s.refuse i st) :=
  s.answer_changes _ _ _ _

theorem State.accept_changes (s : State) (i : Instr) : Changes [.replies] s (s.accept i) := s.answer_changes _ _ _ _

theorem State.acceptClamped_changes (s : State) (i : Instr) (c : Bool) (vs : List Nat) :
    Changes [.replies] s (s.acceptClamped i c vs) := by
  unfold State.acceptClamped; split
  · exact s.reply_changes _ _ _
  · exact s.accept_changes _

/-! ## Whole-table writes -/

/-- The output words of some points are rewritten. -/
theorem Changes.words (s : State) (f : Nat → Point → Point) (hf : ∀ p x, ∃ w, f p x = { x with word := w }) :
    Changes [.words] s { s with loops.points := s.loops.points.map f } := by
  let t : State := { s with loops.points := s.loops.points.map f }
  have h : ∀ n, ∃ w, t.point n = { s.point n with word := w } := by
    intro n
    show ∃ w, (s.loops.points.map f).get n = { s.loops.points.get n with word := w }
    by_cases hn : n < 256
    · rw [Table.get_map f _ hn]; exact hf n _
    · rw [Table.get_out _ (Nat.le_of_not_lt hn), Table.get_out _ (Nat.le_of_not_lt hn)]; exact ⟨_, rfl⟩
  refine .plain (fun q hq => ?_) rfl rfl rfl
  cases q with
  | words => exact absurd (by decide) hq
  | points => intro n; obtain ⟨w, hw⟩ := h n; rw [show State.point _ n = _ from hw]
  | presses => intro n; obtain ⟨w, hw⟩ := h n; rw [show State.point _ n = _ from hw]
  | _ => simp [Part.same]

theorem State.refreshLamps_changes (s : State) : Changes [.words] s s.refreshLamps :=
  Changes.words s _ fun p x => by split <;> exact ⟨_, rfl⟩

/-! ## Writes of one field -/

theorem Changes.routes_exits (s : State) (x : Table Exit 12) :
    Changes [.exits] s { s with routes.exits := x } :=
  .plain (fun q hq => by cases q <;> first | exact absurd (by decide) hq | simp [Part.same, State.point]) rfl rfl rfl

theorem Changes.routes_sequences (s : State) (x : Table Sequence 16) :
    Changes [.sequences] s { s with routes.sequences := x } :=
  .plain (fun q hq => by cases q <;> first | exact absurd (by decide) hq | simp [Part.same, State.point]) rfl rfl rfl

theorem Changes.routes_steps (s : State) (x : Table Step 64) :
    Changes [.sequences] s { s with routes.steps := x } :=
  .plain (fun q hq => by cases q <;> first | exact absurd (by decide) hq | simp [Part.same, State.point]) rfl rfl rfl

theorem Changes.guard_quiet (s : State) (x : Option Countdown) :
    Changes [.quiet] s { s with guard.quiet := x } :=
  .plain (fun q hq => by cases q <;> first | exact absurd (by decide) hq | simp [Part.same, State.point]) rfl rfl rfl

theorem Changes.guard_grants (s : State) (x : Table (Option Grant) 4) :
    Changes [.grants] s { s with guard.grants := x } :=
  .plain (fun q hq => by cases q <;> first | exact absurd (by decide) hq | simp [Part.same, State.point]) rfl rfl rfl

theorem Changes.guard_nextGrant (s : State) (x : Nat) :
    Changes [.grants] s { s with guard.nextGrant := x } :=
  .plain (fun q hq => by cases q <;> first | exact absurd (by decide) hq | simp [Part.same, State.point]) rfl rfl rfl

theorem Changes.doors_latchEvac (s : State) (x : Bool) :
    Changes [.latch] s { s with doors.latchEvac := x } :=
  .plain (fun q hq => by cases q <;> first | exact absurd (by decide) hq | simp [Part.same, State.point]) rfl rfl rfl

theorem Changes.doors_latchStartUp (s : State) (x : Bool) :
    Changes [.latch] s { s with doors.latchStartUp := x } :=
  .plain (fun q hq => by cases q <;> first | exact absurd (by decide) hq | simp [Part.same, State.point]) rfl rfl rfl

theorem Changes.doors_scansA (s : State) (x : Nat) :
    Changes [.scanCounts] s { s with doors.scansA := x } :=
  .plain (fun q hq => by cases q <;> first | exact absurd (by decide) hq | simp [Part.same, State.point]) rfl rfl rfl

theorem Changes.doors_scansB (s : State) (x : Nat) :
    Changes [.scanCounts] s { s with doors.scansB := x } :=
  .plain (fun q hq => by cases q <;> first | exact absurd (by decide) hq | simp [Part.same, State.point]) rfl rfl rfl

theorem Changes.fire_silenced (s : State) (x : Bool) :
    Changes [.silenced] s { s with fire.silenced := x } :=
  .plain (fun q hq => by cases q <;> first | exact absurd (by decide) hq | simp [Part.same, State.point]) rfl rfl rfl

theorem Changes.fire_evacIn (s : State) (x : LineFilter) :
    Changes [.lines] s { s with fire.evacIn := x } :=
  .plain (fun q hq => by cases q <;> first | exact absurd (by decide) hq | simp [Part.same, State.point]) rfl rfl rfl

theorem Changes.fire_mainsOk (s : State) (x : LineFilter) :
    Changes [.lines] s { s with fire.mainsOk := x } :=
  .plain (fun q hq => by cases q <;> first | exact absurd (by decide) hq | simp [Part.same, State.point]) rfl rfl rfl

theorem Changes.store_saving (s : State) (x : Option Image) :
    Changes [.store] s { s with store.saving := x } :=
  .plain (fun q hq => by cases q <;> first | exact absurd (by decide) hq | simp [Part.same, State.point]) rfl rfl rfl

theorem Changes.loops_scanA (s : State) (x : Scanner) :
    Changes [.scanners] s { s with loops.scanA := x } :=
  .plain (fun q hq => by cases q <;> first | exact absurd (by decide) hq | simp [Part.same, State.point]) rfl rfl rfl

theorem Changes.loops_scanB (s : State) (x : Scanner) :
    Changes [.scanners] s { s with loops.scanB := x } :=
  .plain (fun q hq => by cases q <;> first | exact absurd (by decide) hq | simp [Part.same, State.point]) rfl rfl rfl

theorem Changes.detection_detectors (s : State) (x : Table (Option Detector) 256) :
    Changes [.detectors] s { s with detection.detectors := x } :=
  .plain (fun q hq => by cases q <;> first | exact absurd (by decide) hq | simp [Part.same, State.point]) rfl rfl rfl

theorem Changes.lamps_lamps (s : State) (x : Table (Option Lamp) 256) :
    Changes [.lamps] s { s with lamps.lamps := x } :=
  .plain (fun q hq => by cases q <;> first | exact absurd (by decide) hq | simp [Part.same, State.point]) rfl rfl rfl

theorem Changes.clock_scanA (s : State) (x : Nat) :
    Changes [.clock] s { s with clock.scanA := x } :=
  .plain (fun q hq => by cases q <;> first | exact absurd (by decide) hq | simp [Part.same, State.point]) rfl rfl rfl

theorem Changes.clock_scanB (s : State) (x : Nat) :
    Changes [.clock] s { s with clock.scanB := x } :=
  .plain (fun q hq => by cases q <;> first | exact absurd (by decide) hq | simp [Part.same, State.point]) rfl rfl rfl

theorem Changes.fire_zones (s : State) (x : Table Zone 48) :
    Changes [.zones] s { s with fire.zones := x } :=
  .plain (fun q hq => by cases q <;> first | exact absurd (by decide) hq | simp [Part.same, State.point]) rfl rfl rfl

theorem Changes.store (s : State) (x : Store) :
    Changes [.store] s { s with store := x } :=
  .plain (fun q hq => by cases q <;> first | exact absurd (by decide) hq | simp [Part.same, State.point]) rfl rfl rfl

/-- The call queue takes a list within the bound. -/
theorem Changes.queue (s : State) (q : List Call) (h : s.calls.queue.length ≤ 16 → q.length ≤ 16) :
    Changes [.calls] s (s.setQueue q) :=
  ⟨fun q hq => by cases q <;> first | exact absurd (by decide) hq | simp [Part.same, State.setQueue, State.point], id, id, h⟩

/-! ## Shapes of operations -/

theorem State.each_changes {ps : List Part} {s : State} {ns : List Nat} {f : Nat → State → State}
    (hf : ∀ n t, Changes ps t (f n t)) : Changes ps s (s.each ns f) := Changes.each hf ns s

/-- An event of the part's own answers a next state, and the transmit path chooses. -/
theorem done_changes {ps : List Part} {s t : State} (hp : ∀ q ∈ [Part.reports, .replies], q ∈ ps)
    (h : Changes ps s t) : ∃ u, done t = .next u ∧ Changes ps s u :=
  ⟨_, rfl, t.pump_changes.after hp h⟩

/-- A request answers a next state: served, or held, or discarded and counted. -/
theorem request_changes {ps : List Part} {s : State} {i : Instr} {serve : State → State}
    (hp : ∀ q ∈ [Part.holder, .discards, .reports, .replies], q ∈ ps) (h : Changes ps s (serve s)) :
    ∃ t, request i serve s = .next t ∧ Changes ps s t := by
  have ho : ∀ q ∈ [Part.reports, .replies], q ∈ ps := fun q hq => hp q (by simp at hq ⊢; tauto)
  unfold request
  split
  · exact done_changes ho ((s.hold_changes _).mono fun q hq => hp q (by simp at hq ⊢; tauto))
  · exact done_changes ho h

end Sys2Proof.Machine
end

