-- ==== Sys2Proof/Laws/Luminaires.lean ====
section
/-! SUPPORT. Which parts of the state each operation of Machine/Luminaires.lean touches, and that it keeps the bounds. -/

namespace Sys2Proof.Machine

theorem State.reportTest_changes (s : State) (g : Nat) (cause : TestCause) (p : Option Nat) : Changes [.reports]
    s (State.reportTest s g cause p) := by
  unfold State.reportTest
  try dsimp only
  repeat' first | with_reducible exact Changes.refl _ _
                | with_reducible refine (State.report_changes ..).after (by decide) ?_

theorem State.failLamp_changes (s : State) (p : Nat) : Changes [.words, .lamps, .reports]
    s (State.failLamp s p) := by
  unfold State.failLamp
  try dsimp only
  repeat' first | with_reducible exact Changes.refl _ _
                | with_reducible refine (State.putLamp_changes ..).after (by decide) ?_
                | with_reducible refine (State.refreshLamps_changes ..).after (by decide) ?_
                | with_reducible refine (State.reportTest_changes ..).after (by decide) ?_ | split

theorem State.lampLost_changes (s : State) (p : Nat) : Changes [.words, .lamps, .reports]
    s (State.lampLost s p) := by
  unfold State.lampLost
  try dsimp only
  repeat' first | with_reducible exact Changes.refl _ _
                | with_reducible refine (State.failLamp_changes ..).after (by decide) ?_ | split

theorem State.eachLampOf_changes (s : State) (g : Nat) (f : Nat → Lamp → Lamp) : Changes [.lamps]
    s (State.eachLampOf s g f) := by
  unfold State.eachLampOf
  try dsimp only
  repeat' first | with_reducible exact Changes.refl _ _
                | with_reducible refine (Changes.lamps_lamps _ _).after (by decide) ?_

theorem State.abandonTest_changes (s : State) (g : Nat) : Changes [.words, .lamps, .lampGroups, .reports]
    s (State.abandonTest s g) := by
  unfold State.abandonTest
  try dsimp only
  repeat' first | with_reducible exact Changes.refl _ _
                | with_reducible refine (State.putLampGroup_changes ..).after (by decide) ?_
                | with_reducible refine (State.eachLampOf_changes ..).after (by decide) ?_
                | with_reducible refine (State.refreshLamps_changes ..).after (by decide) ?_
                | with_reducible refine (State.reportTest_changes ..).after (by decide) ?_

theorem State.abandonTests_changes (s : State) : Changes [.words, .lamps, .lampGroups, .reports]
    s (State.abandonTests s) := by
  unfold State.abandonTests
  try dsimp only
  repeat' first | with_reducible exact Changes.refl _ _
                | with_reducible refine (State.abandonTest_changes ..).after (by decide) ?_
                | with_reducible refine Changes.trans ?_ (State.each_changes (fun n t => ?_)) | split

theorem State.lampsSeeEvacuate_changes (s : State) : Changes [.words, .lamps, .lampGroups, .reports]
    s (State.lampsSeeEvacuate s) := by
  unfold State.lampsSeeEvacuate
  try dsimp only
  repeat' first | with_reducible exact Changes.refl _ _
                | with_reducible refine (State.abandonTests_changes ..).after (by decide) ?_
                | with_reducible refine (State.refreshLamps_changes ..).after (by decide) ?_ | split

theorem State.lampsSeeMains_changes (s : State) : Changes [.words, .alarms, .lamps, .lampGroups, .reports]
    s (State.lampsSeeMains s) := by
  unfold State.lampsSeeMains
  try dsimp only
  repeat' first | with_reducible exact Changes.refl _ _
                | with_reducible refine (State.endAlarm_changes ..).after (by decide) ?_
                | with_reducible refine (State.refreshLamps_changes ..).after (by decide) ?_
                | with_reducible refine (State.raise_changes ..).after (by decide) ?_
                | with_reducible refine (State.abandonTests_changes ..).after (by decide) ?_ | split

theorem State.passLamp_changes (s : State) (p : Nat) : Changes [.alarms, .lamps, .reports]
    s (State.passLamp s p) := by
  unfold State.passLamp
  try dsimp only
  repeat' first | with_reducible exact Changes.refl _ _
                | with_reducible refine (State.putLamp_changes ..).after (by decide) ?_
                | with_reducible refine (State.endAlarm_changes ..).after (by decide) ?_ | split

theorem State.completeTest_changes (s : State) (g : Nat) : Changes [.words, .alarms, .lamps, .lampGroups, .reports]
    s (State.completeTest s g) := by
  unfold State.completeTest
  try dsimp only
  repeat' first | with_reducible exact Changes.refl _ _
                | with_reducible refine (State.passLamp_changes ..).after (by decide) ?_
                | with_reducible refine (State.putLampGroup_changes ..).after (by decide) ?_
                | with_reducible refine (State.eachLampOf_changes ..).after (by decide) ?_
                | with_reducible refine (State.refreshLamps_changes ..).after (by decide) ?_
                | with_reducible refine (State.reportTest_changes ..).after (by decide) ?_
                | with_reducible refine Changes.trans ?_ (State.each_changes (fun n t => ?_))

theorem State.judgeLampGood_changes (s : State) (p : Nat) (lampGood : Bool) : Changes [.alarms, .lamps, .reports]
    s (State.judgeLampGood s p lampGood) := by
  unfold State.judgeLampGood
  try dsimp only
  repeat' first | with_reducible exact Changes.refl _ _
                | with_reducible refine (State.putLamp_changes ..).after (by decide) ?_
                | with_reducible refine (State.raise_changes ..).after (by decide) ?_
                | with_reducible refine (State.endAlarm_changes ..).after (by decide) ?_ | split

theorem State.judgeBattery_changes (s : State) (p : Nat) (b : Battery) : Changes [.alarms, .lamps, .reports]
    s (State.judgeBattery s p b) := by
  unfold State.judgeBattery
  try dsimp only
  repeat' first | with_reducible exact Changes.refl _ _
                | with_reducible refine (State.putLamp_changes ..).after (by decide) ?_
                | with_reducible refine (State.raise_changes ..).after (by decide) ?_
                | with_reducible refine (State.endAlarm_changes ..).after (by decide) ?_ | split

theorem State.judgeTest_changes (s : State) (p : Nat) (lampGood : Bool) (b : Battery) : Changes [.words, .alarms, .lamps, .reports]
    s (State.judgeTest s p lampGood b) := by
  unfold State.judgeTest
  try dsimp only
  repeat' first | with_reducible exact Changes.refl _ _
                | with_reducible refine (State.failLamp_changes ..).after (by decide) ?_
                | with_reducible refine (State.putLamp_changes ..).after (by decide) ?_
                | with_reducible refine (State.raise_changes ..).after (by decide) ?_ | split

theorem State.lampReply_changes (s : State) (p : Nat) (lampGood : Bool) (b : Battery) : Changes [.words, .alarms, .lamps, .reports]
    s (State.lampReply s p lampGood b) := by
  unfold State.lampReply
  try dsimp only
  repeat' first | with_reducible exact Changes.refl _ _
                | with_reducible refine (State.judgeLampGood_changes ..).after (by decide) ?_
                | with_reducible refine (State.judgeBattery_changes ..).after (by decide) ?_
                | with_reducible refine (State.judgeTest_changes ..).after (by decide) ?_ | split

theorem State.isolateLamp_changes (s : State) (p : Nat) : Changes [.words, .lamps]
    s (State.isolateLamp s p) := by
  unfold State.isolateLamp
  try dsimp only
  repeat' first | with_reducible exact Changes.refl _ _
                | with_reducible refine (State.putLamp_changes ..).after (by decide) ?_
                | with_reducible refine (State.refreshLamps_changes ..).after (by decide) ?_ | split

theorem serveCfgLamp_changes (tag : Byte) (p : Nat) (setting : Option LampSetting) (s : State) : Changes [.words, .alarms, .lamps, .reports, .replies]
    s (serveCfgLamp tag p setting s) := by
  unfold serveCfgLamp
  try dsimp only
  repeat' first | with_reducible exact Changes.refl _ _
                | with_reducible refine (State.refuse_changes ..).after (by decide) ?_
                | with_reducible refine (State.putLamp_changes ..).after (by decide) ?_
                | with_reducible refine (State.refreshLamps_changes ..).after (by decide) ?_
                | with_reducible refine (State.accept_changes ..).after (by decide) ?_
                | with_reducible refine (State.endAlarm_changes ..).after (by decide) ?_ | split

theorem execCfgLamp_changes (tag : Byte) (p : Nat) (setting : Option LampSetting) (s : State) :
    ∃ t, execCfgLamp tag p setting s = .next t ∧ Changes [.words, .alarms, .lamps, .holder, .discards, .reports, .replies] s t :=
  request_changes (by decide) ((serveCfgLamp_changes ..).mono (by decide))

theorem serveCfgLampGroup_changes (tag : Byte) (g length : Nat) (s : State) : Changes [.lampGroups, .replies]
    s (serveCfgLampGroup tag g length s) := by
  unfold serveCfgLampGroup
  try dsimp only
  repeat' first | with_reducible exact Changes.refl _ _
                | with_reducible refine (State.refuse_changes ..).after (by decide) ?_
                | with_reducible refine (State.putLampGroup_changes ..).after (by decide) ?_
                | with_reducible refine (State.accept_changes ..).after (by decide) ?_ | split

theorem execCfgLampGroup_changes (tag : Byte) (g length : Nat) (s : State) :
    ∃ t, execCfgLampGroup tag g length s = .next t ∧ Changes [.lampGroups, .holder, .discards, .reports, .replies] s t :=
  request_changes (by decide) ((serveCfgLampGroup_changes ..).mono (by decide))

theorem serveStartTest_changes (tag : Byte) (g : Nat) (s : State) : Changes [.words, .lamps, .lampGroups, .reports, .replies]
    s (serveStartTest tag g s) := by
  unfold serveStartTest
  try dsimp only
  repeat' first | with_reducible exact Changes.refl _ _
                | with_reducible refine (State.refuse_changes ..).after (by decide) ?_
                | with_reducible refine (State.putLampGroup_changes ..).after (by decide) ?_
                | with_reducible refine (State.eachLampOf_changes ..).after (by decide) ?_
                | with_reducible refine (State.refreshLamps_changes ..).after (by decide) ?_
                | with_reducible refine (State.reportTest_changes ..).after (by decide) ?_
                | with_reducible refine (State.failLamp_changes ..).after (by decide) ?_
                | with_reducible refine (State.accept_changes ..).after (by decide) ?_
                | with_reducible refine Changes.trans ?_ (State.each_changes (fun n t => ?_)) | split

theorem execStartTest_changes (tag : Byte) (g : Nat) (s : State) :
    ∃ t, execStartTest tag g s = .next t ∧ Changes [.words, .lamps, .lampGroups, .holder, .discards, .reports, .replies] s t :=
  request_changes (by decide) ((serveStartTest_changes ..).mono (by decide))

theorem serveResumeTest_changes (tag : Byte) (g : Nat) (s : State) : Changes [.words, .lampGroups, .reports, .replies]
    s (serveResumeTest tag g s) := by
  unfold serveResumeTest
  try dsimp only
  repeat' first | with_reducible exact Changes.refl _ _
                | with_reducible refine (State.refuse_changes ..).after (by decide) ?_
                | with_reducible refine (State.putLampGroup_changes ..).after (by decide) ?_
                | with_reducible refine (State.refreshLamps_changes ..).after (by decide) ?_
                | with_reducible refine (State.reportTest_changes ..).after (by decide) ?_
                | with_reducible refine (State.accept_changes ..).after (by decide) ?_ | split

theorem execResumeTest_changes (tag : Byte) (g : Nat) (s : State) :
    ∃ t, execResumeTest tag g s = .next t ∧ Changes [.words, .lampGroups, .holder, .discards, .reports, .replies] s t :=
  request_changes (by decide) ((serveResumeTest_changes ..).mono (by decide))

theorem serveSuspendTest_changes (tag : Byte) (g : Nat) (s : State) : Changes [.words, .lampGroups, .reports, .replies]
    s (serveSuspendTest tag g s) := by
  unfold serveSuspendTest
  try dsimp only
  repeat' first | with_reducible exact Changes.refl _ _
                | with_reducible refine (State.refuse_changes ..).after (by decide) ?_
                | with_reducible refine (State.putLampGroup_changes ..).after (by decide) ?_
                | with_reducible refine (State.refreshLamps_changes ..).after (by decide) ?_
                | with_reducible refine (State.reportTest_changes ..).after (by decide) ?_
                | with_reducible refine (State.accept_changes ..).after (by decide) ?_ | split

theorem execSuspendTest_changes (tag : Byte) (g : Nat) (s : State) :
    ∃ t, execSuspendTest tag g s = .next t ∧ Changes [.words, .lampGroups, .holder, .discards, .reports, .replies] s t :=
  request_changes (by decide) ((serveSuspendTest_changes ..).mono (by decide))

theorem serveStopTest_changes (tag : Byte) (g : Nat) (s : State) : Changes [.words, .lamps, .lampGroups, .reports, .replies]
    s (serveStopTest tag g s) := by
  unfold serveStopTest
  try dsimp only
  repeat' first | with_reducible exact Changes.refl _ _
                | with_reducible refine (State.refuse_changes ..).after (by decide) ?_
                | with_reducible refine (State.abandonTest_changes ..).after (by decide) ?_
                | with_reducible refine (State.accept_changes ..).after (by decide) ?_ | split

theorem execStopTest_changes (tag : Byte) (g : Nat) (s : State) :
    ∃ t, execStopTest tag g s = .next t ∧ Changes [.words, .lamps, .lampGroups, .holder, .discards, .reports, .replies] s t :=
  request_changes (by decide) ((serveStopTest_changes ..).mono (by decide))

theorem execSuspensionLimit_changes (g : Nat) (s : State) :
    ∃ t, execSuspensionLimit g s = .next t ∧ Changes [.words, .lamps, .lampGroups, .reports, .replies] s t := by
  refine ⟨_, rfl, (State.pump_changes _).after (by decide) ?_⟩
  repeat' first | with_reducible exact Changes.refl _ _
                | with_reducible refine (State.abandonTest_changes ..).after (by decide) ?_ | split

theorem execTestCompleted_changes (g : Nat) (s : State) :
    ∃ t, execTestCompleted g s = .next t ∧ Changes [.words, .alarms, .lamps, .lampGroups, .reports, .replies] s t := by
  refine ⟨_, rfl, (State.pump_changes _).after (by decide) ?_⟩
  repeat' first | with_reducible exact Changes.refl _ _
                | with_reducible refine (State.completeTest_changes ..).after (by decide) ?_ | split

theorem execRechargeExpiry_changes (g : Nat) (s : State) :
    ∃ t, execRechargeExpiry g s = .next t ∧ Changes [.lampGroups, .reports, .replies] s t := by
  refine ⟨_, rfl, (State.pump_changes _).after (by decide) ?_⟩
  repeat' first | with_reducible exact Changes.refl _ _
                | with_reducible refine (State.putLampGroup_changes ..).after (by decide) ?_
                | with_reducible refine (State.reportTest_changes ..).after (by decide) ?_ | split

theorem serveGetLampGroup_changes (tag : Byte) (g : Nat) (s : State) : Changes [.replies]
    s (serveGetLampGroup tag g s) := by
  unfold serveGetLampGroup
  try dsimp only
  repeat' first | with_reducible exact Changes.refl _ _
                | with_reducible refine (State.refuse_changes ..).after (by decide) ?_
                | with_reducible refine (State.reply_changes ..).after (by decide) ?_ | split

theorem execGetLampGroup_changes (tag : Byte) (g : Nat) (s : State) :
    ∃ t, execGetLampGroup tag g s = .next t ∧ Changes [.holder, .discards, .reports, .replies] s t :=
  request_changes (by decide) ((serveGetLampGroup_changes ..).mono (by decide))

end Sys2Proof.Machine
end

