-- ==== Sys2Proof/Laws/Signs.lean ====
section
/-! SUPPORT. Which parts of the state each operation of Machine/Signs.lean touches, and that it keeps the bounds. -/

namespace Sys2Proof.Machine

theorem State.writeSign_changes (s : State) (n : Nat) : Changes [.words]
    s (State.writeSign s n) := by
  unfold State.writeSign
  try dsimp only
  repeat' first | with_reducible exact Changes.refl _ _
                | with_reducible refine (State.setWord_changes ..).after (by decide) ?_ | split

theorem State.chooseRoute_changes (s : State) (cause : RouteCause) (n : Nat) : Changes [.words, .signs, .reports]
    s (State.chooseRoute s cause n) := by
  unfold State.chooseRoute
  try dsimp only
  repeat' first | with_reducible exact Changes.refl _ _
                | with_reducible refine (State.putSign_changes ..).after (by decide) ?_
                | with_reducible refine (State.writeSign_changes ..).after (by decide) ?_
                | with_reducible refine (State.report_changes ..).after (by decide) ?_ | split

theorem State.recomputeUsable_changes (s : State) : Changes [.exits]
    s (State.recomputeUsable s) := by
  unfold State.recomputeUsable
  try dsimp only
  repeat' first | with_reducible exact Changes.refl _ _
                | with_reducible refine (Changes.routes_exits _ _).after (by decide) ?_

theorem State.reroute_changes (s : State) (cause : RouteCause) : Changes [.words, .exits, .signs, .reports]
    s (State.reroute s cause) := by
  unfold State.reroute
  try dsimp only
  repeat' first | with_reducible exact Changes.refl _ _
                | with_reducible refine (State.recomputeUsable_changes ..).after (by decide) ?_
                | with_reducible refine (State.chooseRoute_changes ..).after (by decide) ?_
                | with_reducible refine Changes.trans ?_ (State.each_changes (fun n t => ?_))

theorem State.advanceStep_changes (s : State) (n : Nat) : Changes [.words, .signs]
    s (State.advanceStep s n) := by
  unfold State.advanceStep
  try dsimp only
  repeat' first | with_reducible exact Changes.refl _ _
                | with_reducible refine (State.putSign_changes ..).after (by decide) ?_
                | with_reducible refine (State.writeSign_changes ..).after (by decide) ?_ | split

theorem State.countStep_changes (s : State) (n : Nat) : Changes [.words, .signs]
    s (State.countStep s n) := by
  unfold State.countStep
  try dsimp only
  repeat' first | with_reducible exact Changes.refl _ _
                | with_reducible refine (State.putSign_changes ..).after (by decide) ?_
                | with_reducible refine (State.advanceStep_changes ..).after (by decide) ?_ | split

theorem State.signsSeeScanStart_changes (s : State) (l : LoopId) : Changes [.words, .signs]
    s (State.signsSeeScanStart s l) := by
  unfold State.signsSeeScanStart
  try dsimp only
  repeat' first | with_reducible exact Changes.refl _ _
                | with_reducible refine (State.countStep_changes ..).after (by decide) ?_
                | with_reducible refine Changes.trans ?_ (State.each_changes (fun n t => ?_)) | split

theorem State.signReply_changes (s : State) (p : Nat) (faceGood : Bool) : Changes [.alarms, .signs, .reports]
    s (State.signReply s p faceGood) := by
  unfold State.signReply
  try dsimp only
  repeat' first | with_reducible exact Changes.refl _ _
                | with_reducible refine (State.putSign_changes ..).after (by decide) ?_
                | with_reducible refine (State.raise_changes ..).after (by decide) ?_
                | with_reducible refine (State.endAlarm_changes ..).after (by decide) ?_ | split

theorem State.isolateSign_changes (s : State) (p : Nat) : Changes [.signs]
    s (State.isolateSign s p) := by
  unfold State.isolateSign
  try dsimp only
  repeat' first | with_reducible exact Changes.refl _ _
                | with_reducible refine (State.putSign_changes ..).after (by decide) ?_ | split

theorem serveCfgExit_changes (tag : Byte) (e : Nat) (setting : Option ExitSetting) (s : State) : Changes [.words, .exits, .signs, .reports, .replies]
    s (serveCfgExit tag e setting s) := by
  unfold serveCfgExit
  try dsimp only
  repeat' first | with_reducible exact Changes.refl _ _
                | with_reducible refine (State.refuse_changes ..).after (by decide) ?_
                | with_reducible refine (State.accept_changes ..).after (by decide) ?_
                | with_reducible refine (State.putExit_changes ..).after (by decide) ?_
                | with_reducible refine (State.reroute_changes ..).after (by decide) ?_ | split

theorem execCfgExit_changes (tag : Byte) (e : Nat) (setting : Option ExitSetting) (s : State) :
    ∃ t, execCfgExit tag e setting s = .next t ∧ Changes [.words, .exits, .signs, .holder, .discards, .reports, .replies] s t :=
  request_changes (by decide) ((serveCfgExit_changes ..).mono (by decide))

theorem State.unbindSign_changes (s : State) (n : Nat) : Changes [.words, .alarms, .reports]
    s (State.unbindSign s n) := by
  unfold State.unbindSign
  try dsimp only
  repeat' first | with_reducible exact Changes.refl _ _
                | with_reducible refine (State.endAlarm_changes ..).after (by decide) ?_
                | with_reducible refine (State.setWord_changes ..).after (by decide) ?_ | split

theorem State.configureSign_changes (s : State) (n : Nat) (c : SignCfg) : Changes [.words, .alarms, .signs, .reports]
    s (State.configureSign s n c) := by
  unfold State.configureSign
  try dsimp only
  repeat' first | with_reducible exact Changes.refl _ _
                | with_reducible refine (State.putSign_changes ..).after (by decide) ?_
                | with_reducible refine (State.unbindSign_changes ..).after (by decide) ?_
                | with_reducible refine (State.chooseRoute_changes ..).after (by decide) ?_ | split

theorem serveCfgSign_changes (tag : Byte) (n : Nat) (setting : Option SignSetting) (s : State) : Changes [.words, .alarms, .signs, .reports, .replies]
    s (serveCfgSign tag n setting s) := by
  unfold serveCfgSign
  try dsimp only
  repeat' first | with_reducible exact Changes.refl _ _
                | with_reducible refine (State.refuse_changes ..).after (by decide) ?_
                | with_reducible refine (State.accept_changes ..).after (by decide) ?_
                | with_reducible refine (State.unbindSign_changes ..).after (by decide) ?_
                | with_reducible refine (State.putSign_changes ..).after (by decide) ?_
                | with_reducible refine (State.configureSign_changes ..).after (by decide) ?_
                | with_reducible refine (State.acceptClamped_changes ..).after (by decide) ?_ | split

theorem execCfgSign_changes (tag : Byte) (n : Nat) (setting : Option SignSetting) (s : State) :
    ∃ t, execCfgSign tag n setting s = .next t ∧ Changes [.words, .alarms, .signs, .holder, .discards, .reports, .replies] s t :=
  request_changes (by decide) ((serveCfgSign_changes ..).mono (by decide))

theorem State.writeSteps_changes (xs : List Step) (k : Nat) (s : State) : Changes [.sequences] s (s.writeSteps k xs) := by
  induction xs generalizing k s with
  | nil => exact .refl _ _
  | cons x xs ih => exact (Changes.routes_steps s _).trans (ih ..)

theorem serveCfgSequence_changes (tag : Byte) (q first count : Nat) (steps : List StepSetting) (s : State) :
    Changes [.sequences, .replies] s (serveCfgSequence tag q first count steps s) := by
  have hr := fun st => (s.refuse_changes (.cfgSequence tag q first count steps) st).mono
    (qs := [.sequences, .replies]) (by decide)
  unfold serveCfgSequence
  cases s.cfgRefusal with
  | some st => exact hr st
  | none =>
    refine iteInduction (fun _ => hr _) fun _ => iteInduction (fun _ => hr _) fun _ => ?_
    cases readSteps steps with
    | none => exact hr _
    | some ss =>
      exact (State.acceptClamped_changes ..).after (by decide) ((State.writeSteps_changes ..).after (by decide)
        ((Changes.routes_sequences s _).mono (by decide)))

theorem execCfgSequence_changes (tag : Byte) (q first count : Nat) (steps : List StepSetting) (s : State) :
    ∃ t, execCfgSequence tag q first count steps s = .next t ∧ Changes [.sequences, .holder, .discards, .reports, .replies] s t :=
  request_changes (by decide) ((serveCfgSequence_changes ..).mono (by decide))

theorem State.setBlocked_changes (s : State) (i : Instr) (e : Nat) (b : Bool) : Changes [.words, .exits, .signs, .reports, .replies]
    s (State.setBlocked s i e b) := by
  unfold State.setBlocked
  try dsimp only
  repeat' first | with_reducible exact Changes.refl _ _
                | with_reducible refine (State.refuse_changes ..).after (by decide) ?_
                | with_reducible refine (State.putExit_changes ..).after (by decide) ?_
                | with_reducible refine (State.reroute_changes ..).after (by decide) ?_
                | with_reducible refine (State.reply_changes ..).after (by decide) ?_ | split

theorem serveBlockExit_changes (tag : Byte) (e : Nat) (s : State) : Changes [.words, .exits, .signs, .reports, .replies]
    s (serveBlockExit tag e s) := by
  unfold serveBlockExit
  try dsimp only
  repeat' first | with_reducible exact Changes.refl _ _
                | with_reducible refine (State.setBlocked_changes ..).after (by decide) ?_

theorem execBlockExit_changes (tag : Byte) (e : Nat) (s : State) :
    ∃ t, execBlockExit tag e s = .next t ∧ Changes [.words, .exits, .signs, .holder, .discards, .reports, .replies] s t :=
  request_changes (by decide) ((serveBlockExit_changes ..).mono (by decide))

theorem serveUnblockExit_changes (tag : Byte) (e : Nat) (s : State) : Changes [.words, .exits, .signs, .reports, .replies]
    s (serveUnblockExit tag e s) := by
  unfold serveUnblockExit
  try dsimp only
  repeat' first | with_reducible exact Changes.refl _ _
                | with_reducible refine (State.setBlocked_changes ..).after (by decide) ?_

theorem execUnblockExit_changes (tag : Byte) (e : Nat) (s : State) :
    ∃ t, execUnblockExit tag e s = .next t ∧ Changes [.words, .exits, .signs, .holder, .discards, .reports, .replies] s t :=
  request_changes (by decide) ((serveUnblockExit_changes ..).mono (by decide))

theorem execSequenceStep_changes (n : Nat) (s : State) :
    ∃ t, execSequenceStep n s = .next t ∧ Changes [.words, .signs, .reports, .replies] s t := by
  refine ⟨_, rfl, (State.pump_changes _).after (by decide) ?_⟩
  repeat' first | with_reducible exact Changes.refl _ _
                | with_reducible refine (State.advanceStep_changes ..).after (by decide) ?_ | split

theorem serveGetExit_changes (tag : Byte) (e : Nat) (s : State) : Changes [.replies]
    s (serveGetExit tag e s) := by
  unfold serveGetExit
  try dsimp only
  repeat' first | with_reducible exact Changes.refl _ _
                | with_reducible refine (State.refuse_changes ..).after (by decide) ?_
                | with_reducible refine (State.reply_changes ..).after (by decide) ?_ | split

theorem execGetExit_changes (tag : Byte) (e : Nat) (s : State) :
    ∃ t, execGetExit tag e s = .next t ∧ Changes [.holder, .discards, .reports, .replies] s t :=
  request_changes (by decide) ((serveGetExit_changes ..).mono (by decide))

theorem serveGetSign_changes (tag : Byte) (n : Nat) (s : State) : Changes [.replies]
    s (serveGetSign tag n s) := by
  unfold serveGetSign
  try dsimp only
  repeat' first | with_reducible exact Changes.refl _ _
                | with_reducible refine (State.refuse_changes ..).after (by decide) ?_
                | with_reducible refine (State.reply_changes ..).after (by decide) ?_ | split

theorem execGetSign_changes (tag : Byte) (n : Nat) (s : State) :
    ∃ t, execGetSign tag n s = .next t ∧ Changes [.holder, .discards, .reports, .replies] s t :=
  request_changes (by decide) ((serveGetSign_changes ..).mono (by decide))

end Sys2Proof.Machine
end

