-- ==== Sys2Proof/Laws/Guarding.lean ====
section
/-! SUPPORT. Which parts of the state each operation of Machine/Guarding.lean touches, and that it keeps the bounds. -/

namespace Sys2Proof.Machine

theorem State.presenceReply_changes (s : State) (p : Nat) (active : Bool) : Changes [.alarms, .marks, .reports]
    s (State.presenceReply s p active) := by
  unfold State.presenceReply
  try dsimp only
  repeat' first | with_reducible exact Changes.refl _ _
                | with_reducible refine (State.putPresence_changes ..).after (by decide) ?_
                | with_reducible refine (State.raise_changes ..).after (by decide) ?_
                | with_reducible refine (State.endAlarm_changes ..).after (by decide) ?_ | split

theorem State.dropPresence_changes (s : State) (p : Nat) : Changes [.alarms, .marks, .reports]
    s (State.dropPresence s p) := by
  unfold State.dropPresence
  try dsimp only
  repeat' first | with_reducible exact Changes.refl _ _
                | with_reducible refine (State.putPresence_changes ..).after (by decide) ?_
                | with_reducible refine (State.endAlarm_changes ..).after (by decide) ?_ | split

theorem State.classForced_changes (s : State) (d : Nat) : Changes [.alarms, .marks, .reports]
    s (s.classForced d).1 := by
  unfold State.classForced
  split
  · exact (State.raise_changes ..).after (by decide) ((s.putDoorIntrusion_changes d true).mono (by decide))
  · exact .refl _ _

theorem State.judgeExitUse_changes (s : State) (d : Nat) : Changes [.alarms, .marks, .reports]
    s (State.judgeExitUse s d) := by
  unfold State.judgeExitUse
  try dsimp only
  repeat' first | with_reducible exact Changes.refl _ _
                | with_reducible refine (State.putDoorExit_changes ..).after (by decide) ?_
                | with_reducible refine (State.raise_changes ..).after (by decide) ?_ | split

theorem State.endDoorMarks_changes (s : State) (d : Nat) : Changes [.alarms, .marks, .reports]
    s (State.endDoorMarks s d) := by
  unfold State.endDoorMarks
  try dsimp only
  repeat' first | with_reducible exact Changes.refl _ _
                | with_reducible refine (State.putDoorIntrusion_changes ..).after (by decide) ?_
                | with_reducible refine (State.endAlarm_changes ..).after (by decide) ?_
                | with_reducible refine (State.putDoorExit_changes ..).after (by decide) ?_ | split

theorem State.clearDoorMarks_changes (s : State) (d : Nat) : Changes [.marks]
    s (State.clearDoorMarks s d) := by
  unfold State.clearDoorMarks
  try dsimp only
  repeat' first | with_reducible exact Changes.refl _ _
                | with_reducible refine (State.putDoorIntrusion_changes ..).after (by decide) ?_
                | with_reducible refine (State.putDoorExit_changes ..).after (by decide) ?_

theorem State.guardSeesEvacuate_changes (s : State) : Changes [.quiet]
    s (State.guardSeesEvacuate s) := by
  unfold State.guardSeesEvacuate
  try dsimp only
  repeat' first | with_reducible exact Changes.refl _ _
                | with_reducible refine (Changes.guard_quiet _ _).after (by decide) ?_

theorem execGmQuietTimerExpiry_changes (s : State) :
    ∃ t, execGmQuietTimerExpiry s = .next t ∧ Changes [.quiet, .reports, .replies] s t := by
  refine ⟨_, rfl, (State.pump_changes _).after (by decide) ?_⟩
  repeat' first | with_reducible exact Changes.refl _ _
                | with_reducible refine (Changes.guard_quiet _ _).after (by decide) ?_

theorem State.endGrant_changes (s : State) (slot : Nat) (expired : Bool) : Changes [.grants, .reports]
    s (s.endGrant slot expired) := by
  unfold State.endGrant
  split
  · exact (State.report_changes ..).after (by decide) ((Changes.guard_grants s _).mono (by decide))
  · exact .refl _ _

theorem serveGrantPassage_changes (tag : Byte) (zones : List Nat) (duration : Nat) (s : State) :
    Changes [.grants, .replies] s (serveGrantPassage tag zones duration s) := by
  unfold serveGrantPassage
  dsimp only
  split
  · exact (State.refuse_changes ..).mono (by decide)
  · split
    · exact (State.refuse_changes ..).mono (by decide)
    · refine (State.reply_changes ..).after (by decide) ?_
      refine .plain (fun q hq => ?_) rfl rfl rfl
      cases q <;> first | exact absurd (by decide) hq | simp [Part.same, State.point]

theorem execGrantPassage_changes (tag : Byte) (zones : List Nat) (duration : Nat) (s : State) :
    ∃ t, execGrantPassage tag zones duration s = .next t ∧ Changes [.grants, .holder, .discards, .reports, .replies] s t :=
  request_changes (by decide) ((serveGrantPassage_changes ..).mono (by decide))

theorem serveEndPassage_changes (tag : Byte) (number : Nat) (s : State) : Changes [.grants, .reports, .replies]
    s (serveEndPassage tag number s) := by
  unfold serveEndPassage
  try dsimp only
  repeat' first | with_reducible exact Changes.refl _ _
                | with_reducible refine (State.endGrant_changes ..).after (by decide) ?_
                | with_reducible refine (State.accept_changes ..).after (by decide) ?_
                | with_reducible refine (State.refuse_changes ..).after (by decide) ?_ | split

theorem execEndPassage_changes (tag : Byte) (number : Nat) (s : State) :
    ∃ t, execEndPassage tag number s = .next t ∧ Changes [.grants, .holder, .discards, .reports, .replies] s t :=
  request_changes (by decide) ((serveEndPassage_changes ..).mono (by decide))

theorem execGrantExpiry_changes (number : Nat) (s : State) :
    ∃ t, execGrantExpiry number s = .next t ∧ Changes [.grants, .reports, .replies] s t := by
  refine ⟨_, rfl, (State.pump_changes _).after (by decide) ?_⟩
  repeat' first | with_reducible exact Changes.refl _ _
                | with_reducible refine (State.endGrant_changes ..).after (by decide) ?_ | split

end Sys2Proof.Machine
end

