-- ==== Sys2Proof/Laws/DoorControl.lean ====
section
/-! SUPPORT. Which parts of the state each operation of Machine/DoorControl.lean touches, and that it keeps the bounds. -/

namespace Sys2Proof.Machine

theorem State.reportDoor_changes (s : State) (d : Nat) (ev : DoorEvent) : Changes [.reports]
    s (State.reportDoor s d ev) := by
  unfold State.reportDoor
  try dsimp only
  repeat' first | with_reducible exact Changes.refl _ _
                | with_reducible refine (State.report_changes ..).after (by decide) ?_

/-- One event at a door touches what it does itself, and reports. -/
theorem State.doorEvent_changes {ps : List Part} {s : State} {d : Nat} {ev : DoorShown → DoorShown → DoorEvent}
    {f : State → State} (hp : Part.reports ∈ ps) (hf : ∀ t, Changes ps t (f t)) : Changes ps s (s.doorEvent d ev f) := by
  unfold State.doorEvent
  dsimp only
  split
  · exact hf s
  · exact (State.reportDoor_changes ..).after (by simpa using hp) (hf s)

theorem State.writeLock_changes (s : State) (d : Nat) : Changes [.words]
    s (State.writeLock s d) := by
  unfold State.writeLock
  try dsimp only
  repeat' first | with_reducible exact Changes.refl _ _
                | with_reducible refine (State.setWord_changes ..).after (by decide) ?_ | split

theorem State.writeHolder_changes (s : State) (d : Nat) : Changes [.words]
    s (State.writeHolder s d) := by
  unfold State.writeHolder
  try dsimp only
  repeat' first | with_reducible exact Changes.refl _ _
                | with_reducible refine (State.setWord_changes ..).after (by decide) ?_ | split

theorem State.changeRecord_changes (s : State) (d : Nat) (new : Door) (graceless : Bool) : Changes [.words, .doors, .exits, .signs, .reports]
    s (State.changeRecord s d new graceless) := by
  unfold State.changeRecord
  try dsimp only
  repeat' first | with_reducible exact Changes.refl _ _
                | with_reducible refine (State.putDoor_changes ..).after (by decide) ?_
                | with_reducible refine (State.writeLock_changes ..).after (by decide) ?_
                | with_reducible refine (State.reroute_changes ..).after (by decide) ?_ | split

theorem State.seeQuiet_changes (s : State) (d : Nat) : Changes [.pairs]
    s (State.seeQuiet s d) := by
  unfold State.seeQuiet
  try dsimp only
  repeat' first | with_reducible exact Changes.refl _ _
                | with_reducible refine (State.putPair_changes ..).after (by decide) ?_ | split

theorem State.grantPartner_changes (s : State) (d : Nat) : Changes [.words, .doors, .pairs, .exits, .signs, .reports]
    s (State.grantPartner s d) := by
  unfold State.grantPartner
  try dsimp only
  repeat' first | with_reducible exact Changes.refl _ _
                | with_reducible refine (State.putPair_changes ..).after (by decide) ?_
                | with_reducible refine (State.report_changes ..).after (by decide) ?_
                | with_reducible refine (State.changeRecord_changes ..).after (by decide) ?_
                | with_reducible refine (State.seeQuiet_changes ..).after (by decide) ?_
                | with_reducible refine (State.reportDoor_changes ..).after (by decide) ?_ | split

theorem State.changeDoor_changes (s : State) (d : Nat) (new : Door) (graceless : Bool) : Changes [.words, .doors, .pairs, .exits, .signs, .reports]
    s (State.changeDoor s d new graceless) := by
  unfold State.changeDoor
  try dsimp only
  repeat' first | with_reducible exact Changes.refl _ _
                | with_reducible refine (State.changeRecord_changes ..).after (by decide) ?_
                | with_reducible refine (State.seeQuiet_changes ..).after (by decide) ?_
                | with_reducible refine (State.grantPartner_changes ..).after (by decide) ?_ | split

theorem State.placePending_changes (s : State) (d : Nat) (cause : PendingCause) : Changes [.pairs, .reports]
    s (State.placePending s d cause) := by
  unfold State.placePending
  try dsimp only
  repeat' first | with_reducible exact Changes.refl _ _
                | with_reducible refine (State.report_changes ..).after (by decide) ?_
                | with_reducible refine (State.putPair_changes ..).after (by decide) ?_ | split

theorem State.emptySlot_changes (s : State) (q : Nat) (result : PassResult) : Changes [.pairs, .reports]
    s (State.emptySlot s q result) := by
  unfold State.emptySlot
  try dsimp only
  repeat' first | with_reducible exact Changes.refl _ _
                | with_reducible refine (State.putPair_changes ..).after (by decide) ?_
                | with_reducible refine (State.report_changes ..).after (by decide) ?_ | split

theorem State.judgeBreach_changes (s : State) (q : Nat) : Changes [.alarms, .pairs, .reports]
    s (State.judgeBreach s q) := by
  unfold State.judgeBreach
  try dsimp only
  repeat' first | with_reducible exact Changes.refl _ _
                | with_reducible refine (State.putPair_changes ..).after (by decide) ?_
                | with_reducible refine (State.raise_changes ..).after (by decide) ?_ | split

theorem State.endBreach_changes (s : State) (q : Nat) : Changes [.alarms, .pairs, .reports]
    s (State.endBreach s q) := by
  unfold State.endBreach
  try dsimp only
  repeat' first | with_reducible exact Changes.refl _ _
                | with_reducible refine (State.putPair_changes ..).after (by decide) ?_
                | with_reducible refine (State.endAlarm_changes ..).after (by decide) ?_ | split

theorem State.withPair_changes {ps : List Part} {s : State} {d : Nat} {f : State → Nat → State}
    (hf : ∀ t q, Changes ps t (f t q)) : Changes ps s (s.withPair d f) := by
  unfold State.withPair
  split
  · exact hf s _
  · exact .refl _ _

theorem State.judgeFeedback_changes (s : State) (d : Nat) (fb : Lock) : Changes [.words, .alarms, .doors, .pairs, .exits, .signs, .reports]
    s (State.judgeFeedback s d fb) := by
  unfold State.judgeFeedback
  try dsimp only
  repeat' first | with_reducible exact Changes.refl _ _
                | with_reducible refine (State.changeDoor_changes ..).after (by decide) ?_
                | with_reducible refine (State.endAlarm_changes ..).after (by decide) ?_
                | with_reducible refine (State.raise_changes ..).after (by decide) ?_ | split

theorem State.pressEdge_changes (s : State) (d : Nat) : Changes [.words, .doors, .pairs, .exits, .signs, .reports]
    s (State.pressEdge s d) := by
  unfold State.pressEdge
  try dsimp only
  repeat' first | with_reducible exact Changes.refl _ _
                | with_reducible refine (State.changeDoor_changes ..).after (by decide) ?_
                | with_reducible refine (State.placePending_changes ..).after (by decide) ?_ | split

theorem State.pressLevel_changes (s : State) (d : Nat) : Changes [.words, .doors, .pairs, .exits, .signs, .reports]
    s (State.pressLevel s d) := by
  unfold State.pressLevel
  try dsimp only
  repeat' first | with_reducible exact Changes.refl _ _
                | with_reducible refine (State.changeDoor_changes ..).after (by decide) ?_ | split

theorem State.releaseLevel_changes (s : State) (d : Nat) : Changes [.words, .doors, .pairs, .exits, .signs, .reports]
    s (State.releaseLevel s d) := by
  unfold State.releaseLevel
  try dsimp only
  repeat' first | with_reducible exact Changes.refl _ _
                | with_reducible refine (State.changeDoor_changes ..).after (by decide) ?_ | split

theorem State.judgeExitInput_changes (s : State) (d : Nat) (pressed : Bool) : Changes [.words, .doors, .pairs, .exits, .signs, .reports]
    s (State.judgeExitInput s d pressed) := by
  unfold State.judgeExitInput
  try dsimp only
  repeat' first | with_reducible exact Changes.refl _ _
                | with_reducible refine (State.pressEdge_changes ..).after (by decide) ?_
                | with_reducible refine (State.pressLevel_changes ..).after (by decide) ?_
                | with_reducible refine (State.releaseLevel_changes ..).after (by decide) ?_
                | with_reducible refine (State.putDoor_changes ..).after (by decide) ?_ | split

theorem State.forceDoor_changes (s : State) (d : Nat) : Changes [.alarms, .doors, .marks, .reports]
    s (s.forceDoor d) := by
  have h := State.classForced_changes s d
  unfold State.forceDoor
  rcases hc : s.classForced d with ⟨t, cls⟩
  rw [hc] at h
  dsimp only at h ⊢
  repeat' first | exact h.mono (by decide) | with_reducible refine (State.raise_changes ..).after (by decide) ?_ | with_reducible refine (State.putDoor_changes ..).after (by decide) ?_ | split

theorem State.openDoor_changes (s : State) (d : Nat) : Changes [.words, .alarms, .doors, .pairs, .marks, .exits, .signs, .reports]
    s (State.openDoor s d) := by
  unfold State.openDoor
  try dsimp only
  repeat' first | with_reducible exact Changes.refl _ _
                | with_reducible refine (State.judgeBreach_changes ..).after (by decide) ?_
                | with_reducible refine (State.changeDoor_changes ..).after (by decide) ?_
                | with_reducible refine (State.forceDoor_changes ..).after (by decide) ?_
                | with_reducible refine (State.judgeExitUse_changes ..).after (by decide) ?_
                | with_reducible refine Changes.trans ?_ (State.withPair_changes (fun t q => ?_)) | split

theorem State.closeDoor_changes (s : State) (d : Nat) : Changes [.words, .alarms, .doors, .pairs, .marks, .exits, .signs, .reports]
    s (State.closeDoor s d) := by
  unfold State.closeDoor
  try dsimp only
  repeat' first | with_reducible exact Changes.refl _ _
                | with_reducible refine (State.endBreach_changes ..).after (by decide) ?_
                | with_reducible refine (State.changeDoor_changes ..).after (by decide) ?_
                | with_reducible refine (State.endAlarm_changes ..).after (by decide) ?_
                | with_reducible refine (State.endDoorMarks_changes ..).after (by decide) ?_
                | with_reducible refine Changes.trans ?_ (State.withPair_changes (fun t q => ?_)) | split

theorem State.judgeContact_changes (s : State) (d : Nat) (c : Contact) : Changes [.words, .alarms, .doors, .pairs, .marks, .exits, .signs, .reports]
    s (State.judgeContact s d c) := by
  unfold State.judgeContact
  try dsimp only
  repeat' first | with_reducible exact Changes.refl _ _
                | with_reducible refine (State.openDoor_changes ..).after (by decide) ?_
                | with_reducible refine (State.closeDoor_changes ..).after (by decide) ?_
                | with_reducible refine (State.changeDoor_changes ..).after (by decide) ?_ | split

theorem State.endAfresh_changes (s : State) (d : Nat) : Changes [.doors]
    s (State.endAfresh s d) := by
  unfold State.endAfresh
  try dsimp only
  repeat' first | with_reducible exact Changes.refl _ _
                | with_reducible refine (State.putDoor_changes ..).after (by decide) ?_ | split

theorem State.doorReply_changes (s : State) (p : Nat) (c : Contact) (pressed : Bool) (fb : Lock) : Changes [.words, .alarms, .doors, .pairs, .marks, .exits, .signs, .reports]
    s (State.doorReply s p c pressed fb) := by
  unfold State.doorReply
  try dsimp only
  repeat' first | with_reducible exact Changes.refl _ _
                | with_reducible refine (State.judgeFeedback_changes ..).after (by decide) ?_
                | with_reducible refine (State.judgeExitInput_changes ..).after (by decide) ?_
                | with_reducible refine (State.judgeContact_changes ..).after (by decide) ?_
                | with_reducible refine (State.endAfresh_changes ..).after (by decide) ?_
                | with_reducible refine Changes.trans ?_ (State.doorEvent_changes (by decide) (fun t => ?_))
                | split

theorem State.isolateDoor_changes (s : State) (p : Nat) : Changes [.alarms, .doors, .pairs, .marks, .reports]
    s (State.isolateDoor s p) := by
  unfold State.isolateDoor
  try dsimp only
  repeat' first | with_reducible exact Changes.refl _ _
                | with_reducible refine (State.endBreach_changes ..).after (by decide) ?_
                | with_reducible refine (State.putDoor_changes ..).after (by decide) ?_
                | with_reducible refine (State.clearDoorMarks_changes ..).after (by decide) ?_
                | with_reducible refine Changes.trans ?_ (State.doorEvent_changes (by decide) (fun t => ?_))
                | with_reducible refine Changes.trans ?_ (State.withPair_changes (fun t q => ?_)) | split

theorem State.freeDoor_changes (s : State) (p : Nat) : Changes [.doors]
    s (State.freeDoor s p) := by
  unfold State.freeDoor
  try dsimp only
  repeat' first | with_reducible exact Changes.refl _ _
                | with_reducible refine (State.putDoor_changes ..).after (by decide) ?_ | split

theorem State.placeDoor_changes (s : State) (d : Nat) : Changes [.words, .doors, .pairs, .exits, .signs, .reports]
    s (State.placeDoor s d) := by
  unfold State.placeDoor
  try dsimp only
  repeat' first | with_reducible exact Changes.refl _ _
                | with_reducible refine (State.changeDoor_changes ..).after (by decide) ?_
                | with_reducible refine (State.writeHolder_changes ..).after (by decide) ?_

theorem State.doorsSeeMode_changes (s : State) (g : Nat) : Changes [.words, .doors, .pairs, .exits, .signs, .reports]
    s (State.doorsSeeMode s g) := by
  unfold State.doorsSeeMode
  try dsimp only
  repeat' first | with_reducible exact Changes.refl _ _
                | with_reducible refine (State.placeDoor_changes ..).after (by decide) ?_
                | with_reducible refine Changes.trans ?_ (State.each_changes (fun n t => ?_))
                | with_reducible refine Changes.trans ?_ (State.doorEvent_changes (by decide) (fun t => ?_))

theorem State.doorsSeeZone_changes (s : State) (z : Nat) : Changes [.words, .reports]
    s (State.doorsSeeZone s z) := by
  unfold State.doorsSeeZone
  try dsimp only
  repeat' first | with_reducible exact Changes.refl _ _
                | with_reducible refine (State.writeHolder_changes ..).after (by decide) ?_
                | with_reducible refine Changes.trans ?_ (State.each_changes (fun n t => ?_))
                | with_reducible refine Changes.trans ?_ (State.doorEvent_changes (by decide) (fun t => ?_))

theorem State.latchDoor_changes (s : State) (d : Nat) : Changes [.words, .doors, .pairs, .exits, .signs, .reports]
    s (State.latchDoor s d) := by
  unfold State.latchDoor
  try dsimp only
  repeat' first | with_reducible exact Changes.refl _ _
                | with_reducible refine (State.changeDoor_changes ..).after (by decide) ?_

theorem State.emptySlots_changes (s : State) : Changes [.pairs, .reports]
    s (State.emptySlots s) := by
  unfold State.emptySlots
  try dsimp only
  repeat' first | with_reducible exact Changes.refl _ _
                | with_reducible refine (State.emptySlot_changes ..).after (by decide) ?_
                | with_reducible refine Changes.trans ?_ (State.each_changes (fun n t => ?_))

theorem State.doorsSeeEvacuate_changes (s : State) : Changes [.words, .doors, .latch, .pairs, .exits, .signs, .reports]
    s s.doorsSeeEvacuate := by
  unfold State.doorsSeeEvacuate
  split
  · dsimp only
    with_reducible refine (State.emptySlots_changes _).after (by decide) ?_
    have he := fun f u d => State.doorEvent_changes (ps := [.words, .doors, .latch, .pairs, .exits, .signs, .reports]) (s := u) (d := d)
      (ev := causeOrHolder .latch) (f := f) (by decide)
    with_reducible refine Changes.trans ?_ (State.each_changes fun d u => he _ u d fun v => ?_)
    · split
      · with_reducible exact (Changes.doors_latchEvac s true).mono (by decide)
      · with_reducible refine (State.report_changes ..).after (by decide) ?_
        with_reducible exact (Changes.doors_latchEvac s true).mono (by decide)
    · with_reducible refine (State.writeHolder_changes ..).after (by decide) ?_
      split
      · with_reducible exact (State.latchDoor_changes ..).mono (by decide)
      · with_reducible exact .refl _ _
  · refine State.each_changes fun d u => State.doorEvent_changes (by decide) fun v => ?_
    with_reducible exact (State.writeHolder_changes ..).mono (by decide)

theorem State.unlatchDoor_changes (s : State) (d : Nat) : Changes [.words, .doors, .pairs, .exits, .signs, .reports]
    s (s.unlatchDoor d) := by
  unfold State.unlatchDoor
  exact State.changeDoor_changes ..

theorem State.latchEmpties_changes (s : State) : Changes [.words, .alarms, .doors, .pairs, .exits, .signs, .reports]
    s s.latchEmpties := by
  unfold State.latchEmpties
  dsimp only
  refine Changes.trans (Changes.trans (State.each_changes fun d u => (State.unlatchDoor_changes ..).mono (by decide))
    (State.each_changes fun q u => (State.judgeBreach_changes ..).mono (by decide))) (State.each_changes fun d u => ?_)
  split
  · exact .refl _ _
  · exact (State.reportDoor_changes ..).mono (by decide)

theorem State.latchLosesEvac_changes (s : State) : Changes [.words, .alarms, .doors, .latch, .pairs, .exits, .signs, .reports]
    s s.latchLosesEvac := by
  have h : Changes [.words, .alarms, .doors, .latch, .pairs, .exits, .signs, .reports] s
      (State.report { s with doors.latchEvac := false } (.latchState false s.doors.latchStartUp true false)) :=
    (State.report_changes ..).after (by decide) ((Changes.doors_latchEvac s false).mono (by decide))
  unfold State.latchLosesEvac
  dsimp only
  split
  · exact h
  · exact (State.latchEmpties_changes _).after (by decide) h

theorem State.latchLosesStartUp_changes (s : State) : Changes [.words, .alarms, .doors, .latch, .pairs, .exits, .signs, .reports]
    s s.latchLosesStartUp := by
  have h : Changes [.words, .alarms, .doors, .latch, .pairs, .exits, .signs, .reports] s
      (State.report { s with doors.latchStartUp := false } (.latchState s.doors.latchEvac false false false)) :=
    (State.report_changes ..).after (by decide) ((Changes.doors_latchStartUp s false).mono (by decide))
  unfold State.latchLosesStartUp
  dsimp only
  split
  · exact h
  · exact (State.latchEmpties_changes _).after (by decide) h

theorem State.doorsSeeScanEnd_changes (s : State) (l : LoopId) : Changes [.words, .alarms, .doors, .latch, .scanCounts, .pairs, .exits, .signs, .reports]
    s (s.doorsSeeScanEnd l) := by
  cases l
  · unfold State.doorsSeeScanEnd
    dsimp only
    have h := (Changes.doors_scansA s (min 4 (s.doors.scansA + 1))).mono (qs := [.words, .alarms, .doors, .latch, .scanCounts, .pairs, .exits, .signs, .reports]) (by decide)
    split
    · exact (State.latchLosesStartUp_changes _).after (by decide) h
    · exact h
  · unfold State.doorsSeeScanEnd
    dsimp only
    have h := (Changes.doors_scansB s (min 4 (s.doors.scansB + 1))).mono (qs := [.words, .alarms, .doors, .latch, .scanCounts, .pairs, .exits, .signs, .reports]) (by decide)
    split
    · exact (State.latchLosesStartUp_changes _).after (by decide) h
    · exact h

end Sys2Proof.Machine
end

