-- ==== Sys2Proof/Laws/Doors.lean ====
section
/-! SUPPORT. Which parts of the state each operation of Machine/Doors.lean touches, and that it keeps the bounds. -/

namespace Sys2Proof.Machine

theorem State.addByRequest_changes (s : State) (d : Nat) (cause : PendingCause) : Changes [.words, .doors, .pairs, .exits, .signs, .reports]
    s (s.addByRequest d cause).1 := by
  unfold State.addByRequest
  split
  · exact .refl _ _
  · split
    · dsimp only
      exact State.doorEvent_changes (ps := [.words, .doors, .pairs, .exits, .signs, .reports]) (by decide) fun t => (State.changeDoor_changes ..).mono (by decide)
    · exact (State.placePending_changes ..).mono (by decide)
    · exact .refl _ _

theorem serveReleaseDoor_changes (tag : Byte) (d : Nat) (seconds : Option Nat) (s : State) : Changes [.words, .doors, .pairs, .exits, .signs, .reports, .replies]
    s (serveReleaseDoor tag d seconds s) := by
  unfold serveReleaseDoor
  dsimp only
  split
  · exact (State.refuse_changes ..).mono (by decide)
  · exact (State.reply_changes ..).after (by decide) ((State.addByRequest_changes ..).mono (by decide))

theorem execReleaseDoor_changes (tag : Byte) (d : Nat) (seconds : Option Nat) (s : State) :
    ∃ t, execReleaseDoor tag d seconds s = .next t ∧ Changes [.words, .doors, .pairs, .exits, .signs, .holder, .discards, .reports, .replies] s t :=
  request_changes (by decide) ((serveReleaseDoor_changes ..).mono (by decide))

theorem serveHoldDoor_changes (tag : Byte) (d : Nat) (s : State) : Changes [.words, .doors, .pairs, .exits, .signs, .reports, .replies]
    s (serveHoldDoor tag d s) := by
  unfold serveHoldDoor
  dsimp only
  split
  · exact (State.refuse_changes ..).mono (by decide)
  · split
    · exact (State.reply_changes ..).mono (by decide)
    · exact (State.reply_changes ..).after (by decide) ((State.addByRequest_changes ..).mono (by decide))

theorem execHoldDoor_changes (tag : Byte) (d : Nat) (s : State) :
    ∃ t, execHoldDoor tag d s = .next t ∧ Changes [.words, .doors, .pairs, .exits, .signs, .holder, .discards, .reports, .replies] s t :=
  request_changes (by decide) ((serveHoldDoor_changes ..).mono (by decide))

theorem State.cancelFor_changes (s : State) (d : Nat) : Changes [.pairs, .reports]
    s (State.cancelFor s d) := by
  unfold State.cancelFor
  try dsimp only
  repeat' first | with_reducible exact Changes.refl _ _
                | with_reducible refine (State.emptySlot_changes ..).after (by decide) ?_
                | with_reducible refine Changes.trans ?_ (State.withPair_changes (fun t q => ?_)) | split

theorem serveLockDoor_changes (tag : Byte) (d : Nat) (s : State) : Changes [.words, .doors, .pairs, .exits, .signs, .reports, .replies]
    s (serveLockDoor tag d s) := by
  unfold serveLockDoor
  try dsimp only
  repeat' first | with_reducible exact Changes.refl _ _
                | with_reducible refine (State.refuse_changes ..).after (by decide) ?_
                | with_reducible refine (State.cancelFor_changes ..).after (by decide) ?_
                | with_reducible refine (State.changeDoor_changes ..).after (by decide) ?_
                | with_reducible refine (State.reply_changes ..).after (by decide) ?_
                | with_reducible refine Changes.trans ?_ (State.doorEvent_changes (by decide) (fun t => ?_))
                | split

theorem execLockDoor_changes (tag : Byte) (d : Nat) (s : State) :
    ∃ t, execLockDoor tag d s = .next t ∧ Changes [.words, .doors, .pairs, .exits, .signs, .holder, .discards, .reports, .replies] s t :=
  request_changes (by decide) ((serveLockDoor_changes ..).mono (by decide))

theorem serveDoorRestore_changes (tag : Byte) (s : State) : Changes [.words, .alarms, .doors, .latch, .pairs, .exits, .signs, .reports, .replies]
    s (serveDoorRestore tag s) := by
  unfold serveDoorRestore
  try dsimp only
  repeat' first | with_reducible exact Changes.refl _ _
                | with_reducible refine (State.refuse_changes ..).after (by decide) ?_
                | with_reducible refine (State.latchLosesEvac_changes ..).after (by decide) ?_
                | with_reducible refine (State.reply_changes ..).after (by decide) ?_ | split

theorem execDoorRestore_changes (tag : Byte) (s : State) :
    ∃ t, execDoorRestore tag s = .next t ∧ Changes [.words, .alarms, .doors, .latch, .pairs, .exits, .signs, .holder, .discards, .reports, .replies] s t :=
  request_changes (by decide) ((serveDoorRestore_changes ..).mono (by decide))

theorem State.endDoorEntries_changes (s : State) (d : Nat) : Changes [.alarms, .marks, .reports]
    s (State.endDoorEntries s d) := by
  unfold State.endDoorEntries
  try dsimp only
  repeat' first | with_reducible exact Changes.refl _ _
                | with_reducible refine (State.endAll_changes ..).after (by decide) ?_
                | with_reducible refine (State.endDoorMarks_changes ..).after (by decide) ?_

theorem State.releasePoint_changes (s : State) (d : Nat) : Changes [.words]
    s (State.releasePoint s d) := by
  unfold State.releasePoint
  try dsimp only
  repeat' first | with_reducible exact Changes.refl _ _
                | with_reducible refine (State.setWord_changes ..).after (by decide) ?_ | split

/-- What a CFG_DOOR does to its door touches what it does itself, and reports. -/
theorem State.configEvent_changes {ps : List Part} {s : State} {d : Nat} {f : State → State} (hp : Part.reports ∈ ps)
    (hf : ∀ t, Changes ps t (f t)) : Changes ps s (s.configEvent d f) := by
  unfold State.configEvent
  dsimp only
  split
  · exact hf s
  · exact (State.reportDoor_changes ..).after (by simpa using hp) (hf s)

theorem State.remadeDoor_changes (s : State) (d : Nat) (c : DoorCfg) : Changes [.words, .doors]
    s (State.remadeDoor s d c) := by
  unfold State.remadeDoor
  try dsimp only
  repeat' first | with_reducible exact Changes.refl _ _
                | with_reducible refine (State.putDoor_changes ..).after (by decide) ?_
                | with_reducible refine (State.writeHolder_changes ..).after (by decide) ?_

theorem State.configureDoor_changes (s : State) (d : Nat) (c : DoorCfg) : Changes [.words, .alarms, .doors, .pairs, .marks, .exits, .signs, .reports]
    s (State.configureDoor s d c) := by
  unfold State.configureDoor
  try dsimp only
  repeat' first | with_reducible exact Changes.refl _ _
                | with_reducible refine (State.putDoor_changes ..).after (by decide) ?_
                | with_reducible refine (State.placeDoor_changes ..).after (by decide) ?_
                | with_reducible refine (State.endDoorEntries_changes ..).after (by decide) ?_
                | with_reducible refine (State.releasePoint_changes ..).after (by decide) ?_
                | with_reducible refine (State.remadeDoor_changes ..).after (by decide) ?_
                | with_reducible refine Changes.trans ?_ (State.configEvent_changes (by decide) (fun t => ?_))
                | split

theorem State.unconfigureDoor_changes (s : State) (d : Nat) : Changes [.words, .alarms, .doors, .marks, .reports]
    s (State.unconfigureDoor s d) := by
  unfold State.unconfigureDoor
  try dsimp only
  repeat' first | with_reducible exact Changes.refl _ _
                | with_reducible refine (State.endDoorEntries_changes ..).after (by decide) ?_
                | with_reducible refine (State.releasePoint_changes ..).after (by decide) ?_
                | with_reducible refine (State.putDoor_changes ..).after (by decide) ?_
                | with_reducible refine Changes.trans ?_ (State.configEvent_changes (by decide) (fun t => ?_))

theorem serveCfgDoor_changes (tag : Byte) (d : Nat) (setting : Option DoorSetting) (s : State) : Changes [.words, .alarms, .doors, .pairs, .marks, .exits, .signs, .reports, .replies]
    s (serveCfgDoor tag d setting s) := by
  unfold serveCfgDoor
  try dsimp only
  repeat' first | with_reducible exact Changes.refl _ _
                | with_reducible refine (State.refuse_changes ..).after (by decide) ?_
                | with_reducible refine (State.accept_changes ..).after (by decide) ?_
                | with_reducible refine (State.unconfigureDoor_changes ..).after (by decide) ?_
                | with_reducible refine (State.configureDoor_changes ..).after (by decide) ?_
                | with_reducible refine (State.acceptClamped_changes ..).after (by decide) ?_ | split

theorem execCfgDoor_changes (tag : Byte) (d : Nat) (setting : Option DoorSetting) (s : State) :
    ∃ t, execCfgDoor tag d setting s = .next t ∧ Changes [.words, .alarms, .doors, .pairs, .marks, .exits, .signs, .holder, .discards, .reports, .replies] s t :=
  request_changes (by decide) ((serveCfgDoor_changes ..).mono (by decide))

theorem serveGetDoor_changes (tag : Byte) (d : Nat) (s : State) : Changes [.replies]
    s (serveGetDoor tag d s) := by
  unfold serveGetDoor
  try dsimp only
  repeat' first | with_reducible exact Changes.refl _ _
                | with_reducible refine (State.refuse_changes ..).after (by decide) ?_
                | with_reducible refine (State.reply_changes ..).after (by decide) ?_ | split

theorem execGetDoor_changes (tag : Byte) (d : Nat) (s : State) :
    ∃ t, execGetDoor tag d s = .next t ∧ Changes [.holder, .discards, .reports, .replies] s t :=
  request_changes (by decide) ((serveGetDoor_changes ..).mono (by decide))

theorem execReleaseTimerExpiry_changes (d : Nat) (s : State) :
    ∃ t, execReleaseTimerExpiry d s = .next t ∧ Changes [.words, .doors, .pairs, .exits, .signs, .reports, .replies] s t := by
  refine ⟨_, rfl, (State.pump_changes _).after (by decide) ?_⟩
  repeat' first | with_reducible exact Changes.refl _ _
                | with_reducible refine (State.changeDoor_changes ..).after (by decide) ?_
                | with_reducible refine Changes.trans ?_ (State.doorEvent_changes (by decide) (fun t => ?_))
                | split

theorem execGraceTimerExpiry_changes (d : Nat) (s : State) :
    ∃ t, execGraceTimerExpiry d s = .next t ∧ Changes [.doors, .reports, .replies] s t := by
  refine ⟨_, rfl, (State.pump_changes _).after (by decide) ?_⟩
  repeat' first | with_reducible exact Changes.refl _ _
                | with_reducible refine (State.putDoor_changes ..).after (by decide) ?_

theorem execCloseIgnoreWindowEnd_changes (d : Nat) (s : State) :
    ∃ t, execCloseIgnoreWindowEnd d s = .next t ∧ Changes [.doors, .reports, .replies] s t := by
  refine ⟨_, rfl, (State.pump_changes _).after (by decide) ?_⟩
  repeat' first | with_reducible exact Changes.refl _ _
                | with_reducible refine (State.putDoor_changes ..).after (by decide) ?_

theorem execAllowanceTimerExpiry_changes (d : Nat) (s : State) :
    ∃ t, execAllowanceTimerExpiry d s = .next t ∧ Changes [.alarms, .doors, .reports, .replies] s t := by
  refine ⟨_, rfl, (State.pump_changes _).after (by decide) ?_⟩
  repeat' first | with_reducible exact Changes.refl _ _
                | with_reducible refine (State.putDoor_changes ..).after (by decide) ?_
                | with_reducible refine (State.raise_changes ..).after (by decide) ?_
                | with_reducible refine Changes.trans ?_ (State.doorEvent_changes (by decide) (fun t => ?_))
                | split

theorem execStartUpHoldEnd_changes (s : State) :
    ∃ t, execStartUpHoldEnd s = .next t ∧ Changes [.words, .alarms, .doors, .latch, .scanCounts, .pairs, .exits, .signs, .reports, .replies] s t := by
  refine done_changes (by decide) ?_
  split
  · exact (State.latchLosesStartUp_changes _).after (by decide) ((Changes.doors_scansB _ 4).after (by decide)
      ((Changes.doors_scansA s 4).mono (by decide)))
  · exact .refl _ _

end Sys2Proof.Machine
end

