-- ==== Sys2Proof/Laws/Vestibules.lean ====
section
/-! SUPPORT. Which parts of the state each operation of Machine/Vestibules.lean touches, and that it keeps the bounds. -/

namespace Sys2Proof.Machine

theorem State.clearPair_changes (s : State) (q : Nat) : Changes [.alarms, .pairs, .reports]
    s (State.clearPair s q) := by
  unfold State.clearPair
  try dsimp only
  repeat' first | with_reducible exact Changes.refl _ _
                | with_reducible refine (State.emptySlot_changes ..).after (by decide) ?_
                | with_reducible refine (State.endBreach_changes ..).after (by decide) ?_

theorem State.bindPair_changes (s : State) (q : Nat) (c : PairSetting) : Changes [.alarms, .pairs, .reports]
    s (State.bindPair s q c) := by
  unfold State.bindPair
  try dsimp only
  repeat' first | with_reducible exact Changes.refl _ _
                | with_reducible refine (State.clearPair_changes ..).after (by decide) ?_
                | with_reducible refine (State.putPair_changes ..).after (by decide) ?_

theorem serveCfgPair_changes (tag : Byte) (q : Nat) (setting : Option PairSetting) (s : State) : Changes [.alarms, .pairs, .reports, .replies]
    s (serveCfgPair tag q setting s) := by
  unfold serveCfgPair
  try dsimp only
  repeat' first | with_reducible exact Changes.refl _ _
                | with_reducible refine (State.refuse_changes ..).after (by decide) ?_
                | with_reducible refine (State.accept_changes ..).after (by decide) ?_
                | with_reducible refine (State.clearPair_changes ..).after (by decide) ?_
                | with_reducible refine (State.putPair_changes ..).after (by decide) ?_
                | with_reducible refine (State.bindPair_changes ..).after (by decide) ?_
                | with_reducible refine (State.acceptClamped_changes ..).after (by decide) ?_ | split

theorem execCfgPair_changes (tag : Byte) (q : Nat) (setting : Option PairSetting) (s : State) :
    ∃ t, execCfgPair tag q setting s = .next t ∧ Changes [.alarms, .pairs, .holder, .discards, .reports, .replies] s t :=
  request_changes (by decide) ((serveCfgPair_changes ..).mono (by decide))

theorem serveGetPair_changes (tag : Byte) (q : Nat) (s : State) : Changes [.replies]
    s (serveGetPair tag q s) := by
  unfold serveGetPair
  try dsimp only
  repeat' first | with_reducible exact Changes.refl _ _
                | with_reducible refine (State.refuse_changes ..).after (by decide) ?_
                | with_reducible refine (State.reply_changes ..).after (by decide) ?_ | split

theorem execGetPair_changes (tag : Byte) (q : Nat) (s : State) :
    ∃ t, execGetPair tag q s = .next t ∧ Changes [.holder, .discards, .reports, .replies] s t :=
  request_changes (by decide) ((serveGetPair_changes ..).mono (by decide))

theorem State.settle_changes (s : State) (d : Nat) : Changes [.words, .doors, .pairs, .exits, .signs, .reports]
    s (State.settle s d) := by
  unfold State.settle
  try dsimp only
  repeat' first | with_reducible exact Changes.refl _ _
                | with_reducible refine (State.putPair_changes ..).after (by decide) ?_
                | with_reducible refine (State.grantPartner_changes ..).after (by decide) ?_ | split

theorem execQuietTimerExpiry_changes (d : Nat) (s : State) :
    ∃ t, execQuietTimerExpiry d s = .next t ∧ Changes [.words, .doors, .pairs, .exits, .signs, .reports, .replies] s t := by
  refine ⟨_, rfl, (State.pump_changes _).after (by decide) ?_⟩
  repeat' first | with_reducible exact Changes.refl _ _
                | with_reducible refine (State.settle_changes ..).after (by decide) ?_

theorem execPendingWaitExpiry_changes (q : Nat) (s : State) :
    ∃ t, execPendingWaitExpiry q s = .next t ∧ Changes [.pairs, .reports, .replies] s t := by
  refine ⟨_, rfl, (State.pump_changes _).after (by decide) ?_⟩
  repeat' first | with_reducible exact Changes.refl _ _
                | with_reducible refine (State.emptySlot_changes ..).after (by decide) ?_

end Sys2Proof.Machine
end

