-- ==== Sys2Proof/Laws/CallQueue.lean ====
section
/-! SUPPORT. Which parts of the state each operation of Machine/CallQueue.lean touches, and that it keeps the bounds. -/

namespace Sys2Proof.Machine

theorem State.reportCall_changes (s : State) (r : Call) (cause : CallCause) : Changes [.reports]
    s (State.reportCall s r cause) := by
  unfold State.reportCall
  try dsimp only
  repeat' first | with_reducible exact Changes.refl _ _
                | with_reducible refine (State.report_changes ..).after (by decide) ?_

theorem State.reportRemoved_changes (s : State) (r : Call) (cause : CallCause) : Changes [.reports]
    s (State.reportRemoved s r cause) := by
  unfold State.reportRemoved
  try dsimp only
  repeat' first | with_reducible exact Changes.refl _ _
                | with_reducible refine (State.report_changes ..).after (by decide) ?_

theorem State.reportPress_changes (s : State) (p : Nat) (shown : CallShown) (time : Nat) (cause : CallCause) : Changes [.reports]
    s (State.reportPress s p shown time cause) := by
  unfold State.reportPress
  try dsimp only
  repeat' first | with_reducible exact Changes.refl _ _
                | with_reducible refine (State.report_changes ..).after (by decide) ?_

theorem State.writeCall_changes (s : State) (p : Nat) : Changes [.words]
    s (State.writeCall s p) := by
  unfold State.writeCall
  try dsimp only
  repeat' first | with_reducible exact Changes.refl _ _
                | with_reducible refine (State.setWord_changes ..).after (by decide) ?_

theorem State.setDeferred_changes (s : State) (p : Nat) (t : Option Nat) : Changes [.presses] s (s.setDeferred p t) := by
  refine .plain (fun q hq => ?_) rfl rfl rfl
  cases q with
  | presses => exact absurd (by decide) hq
  | points => intro n; rw [State.setDeferred, State.point_putPoint]; split <;> simp_all
  | words => intro n; rw [State.setDeferred, State.point_putPoint]; split <;> simp_all
  | _ => simp [Part.same, State.setDeferred, State.putPoint]

theorem State.putCall_changes (s : State) (r : Call) : Changes [.calls] s (s.putCall r) :=
  Changes.queue s _ fun h => by simpa using h

theorem State.changeCall_changes (s : State) (r : Call) (cause : CallCause) : Changes [.words, .calls, .reports]
    s (State.changeCall s r cause) := by
  unfold State.changeCall
  try dsimp only
  repeat' first | with_reducible exact Changes.refl _ _
                | with_reducible refine (State.putCall_changes ..).after (by decide) ?_
                | with_reducible refine (State.writeCall_changes ..).after (by decide) ?_
                | with_reducible refine (State.reportCall_changes ..).after (by decide) ?_

theorem State.offerOnce_changes (s : State) : Changes [.words, .calls, .reports]
    s (State.offerOnce s) := by
  unfold State.offerOnce
  try dsimp only
  repeat' first | with_reducible exact Changes.refl _ _
                | with_reducible refine (State.changeCall_changes ..).after (by decide) ?_ | split

theorem State.arbitrate_changes (s : State) : Changes [.words, .calls, .reports]
    s (State.arbitrate s) := by
  unfold State.arbitrate
  try dsimp only
  repeat' first | with_reducible exact Changes.refl _ _
                | with_reducible refine (State.offerOnce_changes ..).after (by decide) ?_

theorem State.yieldCall_changes (s : State) (r : Call) : Changes [.words, .calls, .reports]
    s (State.yieldCall s r) := by
  unfold State.yieldCall
  try dsimp only
  repeat' first | with_reducible exact Changes.refl _ _
                | with_reducible refine (State.changeCall_changes ..).after (by decide) ?_

theorem State.preemptOnce_changes (s : State) : Changes [.words, .calls, .reports]
    s (State.preemptOnce s) := by
  unfold State.preemptOnce
  try dsimp only
  repeat' first | with_reducible exact Changes.refl _ _
                | with_reducible refine (State.yieldCall_changes ..).after (by decide) ?_
                | with_reducible refine (State.arbitrate_changes ..).after (by decide) ?_ | split

theorem State.settleCalls_changes (s : State) : Changes [.words, .calls, .reports]
    s (State.settleCalls s) := by
  unfold State.settleCalls
  try dsimp only
  repeat' first | with_reducible exact Changes.refl _ _
                | with_reducible refine (State.arbitrate_changes ..).after (by decide) ?_
                | with_reducible refine (State.preemptOnce_changes ..).after (by decide) ?_

theorem length_placeCall (r : Call) (q : List Call) : (placeCall r q).length = q.length + 1 := by
  induction q with
  | nil => rfl
  | cons x xs ih => unfold placeCall; split <;> simp [ih]

/-- An admission, whatever the queue holds: the parts it touches, and the two bounds it has no part in. -/
theorem State.admit_touches (s : State) (p : Nat) (cls : CallClass) (time : Nat) :
    ChangesOnly [.presses, .words, .calls, .reports] s (s.admitCall p cls time) ∧
      (s.alarms.Sound → (s.admitCall p cls time).alarms.Sound) ∧ (s.link.Sound → (s.admitCall p cls time).link.Sound) := by
  unfold State.admitCall
  dsimp only
  let n := freeNumber (s.calls.queue.map (·.number)) 255 s.calls.next
  let t : State := { s with calls := ⟨placeCall ⟨n, p, cls, time, .waiting, 0, false⟩ s.calls.queue, nextNumber n⟩ }
  have h : Changes [.presses, .words, .calls, .reports] t _ :=
    (State.reportCall_changes ((t.setDeferred p none).writeCall p) ⟨n, p, cls, time, .waiting, 0, false⟩ .admitted).after
      (by decide) ((State.writeCall_changes ..).after (by decide) ((State.setDeferred_changes ..).mono (by decide)))
  refine ⟨ChangesOnly.trans (fun q hq => ?_) h.only, h.alarms, h.link⟩
  cases q <;> first | exact absurd (by decide) hq | simp [t, Part.same, State.point]

theorem State.admit_changes (s : State) (p : Nat) (cls : CallClass) (time : Nat) (h : s.calls.queue.length < 16) :
    Changes [.presses, .words, .calls, .reports] s (s.admitCall p cls time) := by
  obtain ⟨h₁, h₂, h₃⟩ := s.admit_touches p cls time
  refine ⟨h₁, h₂, h₃, fun _ => ?_⟩
  unfold State.admitCall
  dsimp only
  refine ((State.reportCall_changes ..).after (by decide) ((State.writeCall_changes ..).after (by decide)
    ((State.setDeferred_changes ..).mono (qs := [.presses, .words, .calls, .reports]) (by decide)))).calls ?_
  show (placeCall _ _).length ≤ 16
  rw [length_placeCall]; omega

theorem State.deferPress_changes (s : State) (p : Nat) (time : Nat) : Changes [.presses, .words, .reports]
    s (State.deferPress s p time) := by
  unfold State.deferPress
  try dsimp only
  repeat' first | with_reducible exact Changes.refl _ _
                | with_reducible refine (State.setDeferred_changes ..).after (by decide) ?_
                | with_reducible refine (State.writeCall_changes ..).after (by decide) ?_
                | with_reducible refine (State.reportPress_changes ..).after (by decide) ?_

theorem State.removeCall_changes (s : State) (r : Call) : Changes [.alarms, .calls, .reports] s (s.removeCall r) :=
  (State.endAlarm_changes ..).after (by decide)
    ((Changes.queue s _ fun h => (List.length_filter_le _ _).trans h).mono (by decide))

theorem State.displace_changes (s : State) (r : Call) : Changes [.presses, .words, .alarms, .calls, .reports]
    s (State.displace s r) := by
  unfold State.displace
  try dsimp only
  repeat' first | with_reducible exact Changes.refl _ _
                | with_reducible refine (State.removeCall_changes ..).after (by decide) ?_
                | with_reducible refine (State.setDeferred_changes ..).after (by decide) ?_
                | with_reducible refine (State.writeCall_changes ..).after (by decide) ?_
                | with_reducible refine (State.reportRemoved_changes ..).after (by decide) ?_

theorem latest_mem {r : Call} : ∀ {q : List Call}, latest q = some r → r ∈ q
  | [], h => by simp [latest] at h
  | x :: xs, h => by
    unfold latest at h
    split at h
    · next y hy =>
      split at h
      · cases h; simp
      · cases h; exact List.mem_cons_of_mem _ (latest_mem hy)
    · cases h; simp

theorem State.displaced_mem {s : State} {r : Call} (h : s.displaced = some r) : r ∈ s.calls.queue :=
  List.mem_of_mem_filter (latest_mem h)

/-- Leaving the queue shortens it. -/
theorem State.displace_length (s : State) (r : Call) (h : r ∈ s.calls.queue) :
    (s.displace r).calls.queue.length < s.calls.queue.length := by
  have hq : (s.displace r).calls.queue = s.calls.queue.filter fun x => x.number != r.number := by
    have h₁ := fun t : State => (t.setDeferred_changes r.point (some r.admission)).only .calls (by decide)
    have h₂ := fun t : State => (t.writeCall_changes r.point).only .calls (by decide)
    have h₃ := fun t : State => (t.reportRemoved_changes r .displaced).only .calls (by decide)
    have h₄ := fun t : State => (t.endAlarm_changes .callUnanswered (.point r.point)).only .calls (by decide)
    simp only [Part.same] at h₁ h₂ h₃ h₄
    simp only [State.displace, State.removeCall, h₁, h₂, h₃, h₄]; rfl
  rw [hq]
  exact List.length_filter_lt_length_iff_exists.2 ⟨r, h, by simp⟩

theorem State.callPress_changes (s : State) (p : Nat) : Changes [.presses, .words, .alarms, .calls, .reports]
    s (s.callPress p) := by
  by_cases hb : s.calls.queue.length ≤ 16
  · unfold State.callPress
    dsimp only
    split
    · exact .refl _ _
    · split
      · exact (State.deferPress_changes ..).mono (by decide)
      · split
        · next h => exact (State.settleCalls_changes ..).after (by decide) ((s.admit_changes _ _ _ h).mono (by decide))
        · split
          · next hd =>
            have hl := s.displace_length _ (State.displaced_mem hd)
            exact (State.settleCalls_changes ..).after (by decide) ((State.admit_changes _ _ _ _ (by omega)).after (by decide)
              ((s.displace_changes _).mono (by decide)))
          · exact (State.deferPress_changes ..).mono (by decide)
  · have hd : ∀ r, Changes [.presses, .words, .alarms, .calls, .reports] s
        (((s.displace r).admitCall p (s.callClass p) s.now).settleCalls) := by
      intro r
      have h₁ := s.displace_changes r
      have h₂ := (s.displace r).admit_touches p (s.callClass p) s.now
      have h₃ := ((s.displace r).admitCall p (s.callClass p) s.now).settleCalls_changes
      exact ⟨(h₁.only.mono (by decide)).trans ((h₂.1.mono (by decide)).trans (h₃.only.mono (by decide))),
        h₃.alarms ∘ h₂.2.1 ∘ h₁.alarms, h₃.link ∘ h₂.2.2 ∘ h₁.link, fun h => absurd h hb⟩
    unfold State.callPress
    dsimp only
    split
    · exact .refl _ _
    · split
      · exact (State.deferPress_changes ..).mono (by decide)
      · split
        · next h => omega
        · split
          · exact hd _
          · exact (State.deferPress_changes ..).mono (by decide)

theorem State.admitDeferred_changes (fuel : Nat) (s : State) : Changes [.presses, .words, .calls, .reports]
    s (State.admitDeferred fuel s) := by
  induction fuel generalizing s with
  | zero => exact .refl _ _
  | succ fuel ih =>
    unfold State.admitDeferred
    split
    · next h =>
      split
      · exact (s.admit_changes _ _ _ h).trans (ih _)
      · exact .refl _ _
    · exact .refl _ _

theorem State.runDeferred_changes (s : State) : Changes [.presses, .words, .calls, .reports]
    s (State.runDeferred s) := by
  unfold State.runDeferred
  try dsimp only
  repeat' first | with_reducible exact Changes.refl _ _
                | with_reducible refine (State.admitDeferred_changes ..).after (by decide) ?_
                | with_reducible refine (State.settleCalls_changes ..).after (by decide) ?_

theorem State.finishCall_changes (s : State) (r : Call) (cause : CallCause) : Changes [.presses, .words, .alarms, .calls, .reports]
    s (State.finishCall s r cause) := by
  unfold State.finishCall
  try dsimp only
  repeat' first | with_reducible exact Changes.refl _ _
                | with_reducible refine (State.removeCall_changes ..).after (by decide) ?_
                | with_reducible refine (State.writeCall_changes ..).after (by decide) ?_
                | with_reducible refine (State.reportRemoved_changes ..).after (by decide) ?_
                | with_reducible refine (State.runDeferred_changes ..).after (by decide) ?_

theorem State.callsSeeEvacuate_changes (s : State) : Changes [.words, .calls, .reports]
    s (State.callsSeeEvacuate s) := by
  unfold State.callsSeeEvacuate
  try dsimp only
  repeat' first | with_reducible exact Changes.refl _ _
                | with_reducible refine (State.settleCalls_changes ..).after (by decide) ?_

theorem State.freeCall_changes (s : State) (p : Nat) : Changes [.presses, .words, .alarms, .calls, .reports]
    s (State.freeCall s p) := by
  unfold State.freeCall
  try dsimp only
  repeat' first | with_reducible exact Changes.refl _ _
                | with_reducible refine (State.raise_changes ..).after (by decide) ?_
                | with_reducible refine (State.runDeferred_changes ..).after (by decide) ?_ | split

theorem State.losePress_changes (s : State) (p : Nat) : Changes [.presses, .reports]
    s (State.losePress s p) := by
  unfold State.losePress
  try dsimp only
  repeat' first | with_reducible exact Changes.refl _ _
                | with_reducible refine (State.reportPress_changes ..).after (by decide) ?_
                | with_reducible refine (State.setDeferred_changes ..).after (by decide) ?_ | split

theorem State.onCall_changes {ps : List Part} {s : State} {i : Instr} {n : Nat} {f : Call → State}
    (hp : Part.replies ∈ ps) (hf : ∀ r, Changes ps s (f r)) : Changes ps s (s.onCall i n f) := by
  unfold State.onCall
  split
  · exact (State.refuse_changes ..).mono (by simpa using hp)
  · exact hf _

theorem serveAnswerCall_changes (tag : Byte) (n : Nat) (s : State) : Changes [.words, .alarms, .calls, .reports, .replies]
    s (serveAnswerCall tag n s) := by
  unfold serveAnswerCall
  try dsimp only
  repeat' first | with_reducible exact Changes.refl _ _
                | with_reducible refine (State.changeCall_changes ..).after (by decide) ?_
                | with_reducible refine (State.endAlarm_changes ..).after (by decide) ?_
                | with_reducible refine (State.accept_changes ..).after (by decide) ?_
                | with_reducible refine (State.refuse_changes ..).after (by decide) ?_
                | with_reducible refine Changes.trans ?_ (State.onCall_changes (by decide) (fun r => ?_))
                | split

theorem execAnswerCall_changes (tag : Byte) (n : Nat) (s : State) :
    ∃ t, execAnswerCall tag n s = .next t ∧ Changes [.words, .alarms, .calls, .holder, .discards, .reports, .replies] s t :=
  request_changes (by decide) ((serveAnswerCall_changes ..).mono (by decide))

theorem serveHoldCall_changes (tag : Byte) (n : Nat) (s : State) : Changes [.words, .calls, .reports, .replies]
    s (serveHoldCall tag n s) := by
  unfold serveHoldCall
  try dsimp only
  repeat' first | with_reducible exact Changes.refl _ _
                | with_reducible refine (State.changeCall_changes ..).after (by decide) ?_
                | with_reducible refine (State.settleCalls_changes ..).after (by decide) ?_
                | with_reducible refine (State.accept_changes ..).after (by decide) ?_
                | with_reducible refine (State.refuse_changes ..).after (by decide) ?_
                | with_reducible refine Changes.trans ?_ (State.onCall_changes (by decide) (fun r => ?_))
                | split

theorem execHoldCall_changes (tag : Byte) (n : Nat) (s : State) :
    ∃ t, execHoldCall tag n s = .next t ∧ Changes [.words, .calls, .holder, .discards, .reports, .replies] s t :=
  request_changes (by decide) ((serveHoldCall_changes ..).mono (by decide))

theorem serveEndCall_changes (tag : Byte) (n : Nat) (s : State) : Changes [.presses, .words, .alarms, .calls, .reports, .replies]
    s (serveEndCall tag n s) := by
  unfold serveEndCall
  try dsimp only
  repeat' first | with_reducible exact Changes.refl _ _
                | with_reducible refine (State.finishCall_changes ..).after (by decide) ?_
                | with_reducible refine (State.accept_changes ..).after (by decide) ?_
                | with_reducible refine Changes.trans ?_ (State.onCall_changes (by decide) (fun r => ?_))

theorem execEndCall_changes (tag : Byte) (n : Nat) (s : State) :
    ∃ t, execEndCall tag n s = .next t ∧ Changes [.presses, .words, .alarms, .calls, .holder, .discards, .reports, .replies] s t :=
  request_changes (by decide) ((serveEndCall_changes ..).mono (by decide))

theorem State.expireOffer_changes (s : State) (r : Call) : Changes [.words, .alarms, .calls, .reports]
    s (State.expireOffer s r) := by
  unfold State.expireOffer
  try dsimp only
  repeat' first | with_reducible exact Changes.refl _ _
                | with_reducible refine (State.putCall_changes ..).after (by decide) ?_
                | with_reducible refine (State.writeCall_changes ..).after (by decide) ?_
                | with_reducible refine (State.raise_changes ..).after (by decide) ?_
                | with_reducible refine (State.reportCall_changes ..).after (by decide) ?_
                | with_reducible refine (State.settleCalls_changes ..).after (by decide) ?_ | split

theorem execOfferTimerExpiry_changes (n : Nat) (s : State) :
    ∃ t, execOfferTimerExpiry n s = .next t ∧ Changes [.words, .alarms, .calls, .reports, .replies] s t := by
  refine ⟨_, rfl, (State.pump_changes _).after (by decide) ?_⟩
  repeat' first | with_reducible exact Changes.refl _ _
                | with_reducible refine (State.expireOffer_changes ..).after (by decide) ?_ | split

theorem execLimitTimerExpiry_changes (n : Nat) (s : State) :
    ∃ t, execLimitTimerExpiry n s = .next t ∧ Changes [.presses, .words, .alarms, .calls, .reports, .replies] s t := by
  refine ⟨_, rfl, (State.pump_changes _).after (by decide) ?_⟩
  repeat' first | with_reducible exact Changes.refl _ _
                | with_reducible refine (State.finishCall_changes ..).after (by decide) ?_ | split

theorem serveGetCalls_changes (tag : Byte) (s : State) : Changes [.replies]
    s (serveGetCalls tag s) := by
  unfold serveGetCalls
  try dsimp only
  repeat' first | with_reducible exact Changes.refl _ _
                | with_reducible refine (State.reply_changes ..).after (by decide) ?_

theorem execGetCalls_changes (tag : Byte) (s : State) :
    ∃ t, execGetCalls tag s = .next t ∧ Changes [.holder, .discards, .reports, .replies] s t :=
  request_changes (by decide) ((serveGetCalls_changes ..).mono (by decide))

end Sys2Proof.Machine
end

