-- ==== Sys2Proof/Laws/Regimes.lean ====
section
/-! SUPPORT. Which parts of the state each operation of Machine/Regimes.lean touches, and that it keeps the bounds. -/

namespace Sys2Proof.Machine

theorem State.changeGroup_changes (s : State) (g : Nat) (x : Group) (cause : ModeCause) : Changes [.words, .regimes, .doors, .pairs, .exits, .signs, .reports]
    s (State.changeGroup s g x cause) := by
  unfold State.changeGroup
  try dsimp only
  repeat' first | with_reducible exact Changes.refl _ _
                | with_reducible refine (State.putGroup_changes ..).after (by decide) ?_
                | with_reducible refine (State.report_changes ..).after (by decide) ?_
                | with_reducible refine (State.doorsSeeMode_changes ..).after (by decide) ?_
                | with_reducible refine (State.refreshLamps_changes ..).after (by decide) ?_ | split

theorem State.failSetting_changes (s : State) (g : Nat) (reason : FailReason) : Changes [.words, .regimes, .doors, .pairs, .exits, .signs, .reports]
    s (State.failSetting s g reason) := by
  unfold State.failSetting
  try dsimp only
  repeat' first | with_reducible exact Changes.refl _ _
                | with_reducible refine (State.changeGroup_changes ..).after (by decide) ?_
                | with_reducible refine (State.report_changes ..).after (by decide) ?_

theorem State.startSetting_changes (s : State) (g : Nat) (cause : ModeCause) : Changes [.words, .regimes, .doors, .pairs, .exits, .signs, .reports]
    s (State.startSetting s g cause) := by
  unfold State.startSetting
  try dsimp only
  repeat' first | with_reducible exact Changes.refl _ _
                | with_reducible refine (State.changeGroup_changes ..).after (by decide) ?_
                | with_reducible refine (State.failSetting_changes ..).after (by decide) ?_ | split

theorem State.applyTarget_changes (s : State) (g : Nat) (target : Mode) (cause : ModeCause) : Changes [.words, .regimes, .doors, .pairs, .exits, .signs, .reports]
    s (State.applyTarget s g target cause) := by
  unfold State.applyTarget
  try dsimp only
  repeat' first | with_reducible exact Changes.refl _ _
                | with_reducible refine (State.changeGroup_changes ..).after (by decide) ?_
                | with_reducible refine (State.report_changes ..).after (by decide) ?_
                | with_reducible refine (State.putGroup_changes ..).after (by decide) ?_
                | with_reducible refine (State.startSetting_changes ..).after (by decide) ?_ | split

theorem State.reportSegment_changes (s : State) (g : Nat) (cause : SegmentCause) : Changes [.reports]
    s (State.reportSegment s g cause) := by
  unfold State.reportSegment
  try dsimp only
  repeat' first | with_reducible exact Changes.refl _ _
                | with_reducible refine (State.report_changes ..).after (by decide) ?_

theorem State.takeStaged_changes (s : State) (g : Nat) : Changes [.words, .regimes, .doors, .pairs, .exits, .signs, .reports]
    s (State.takeStaged s g) := by
  unfold State.takeStaged
  try dsimp only
  repeat' first | with_reducible exact Changes.refl _ _
                | with_reducible refine (State.putGroup_changes ..).after (by decide) ?_
                | with_reducible refine (State.reportSegment_changes ..).after (by decide) ?_
                | with_reducible refine (State.applyTarget_changes ..).after (by decide) ?_ | split

theorem State.expireSegment_changes (s : State) (g : Nat) : Changes [.words, .regimes, .doors, .pairs, .exits, .signs, .reports]
    s (State.expireSegment s g) := by
  unfold State.expireSegment
  try dsimp only
  repeat' first | with_reducible exact Changes.refl _ _
                | with_reducible refine (State.takeStaged_changes ..).after (by decide) ?_
                | with_reducible refine (State.putGroup_changes ..).after (by decide) ?_
                | with_reducible refine (State.reportSegment_changes ..).after (by decide) ?_
                | with_reducible refine (State.applyTarget_changes ..).after (by decide) ?_ | split

theorem State.groupSeesFire_changes (s : State) (z : Nat) : Changes [.words, .regimes, .doors, .pairs, .exits, .signs, .reports]
    s (State.groupSeesFire s z) := by
  unfold State.groupSeesFire
  try dsimp only
  repeat' first | with_reducible exact Changes.refl _ _
                | with_reducible refine (State.failSetting_changes ..).after (by decide) ?_ | split

theorem State.groupsSeeEvacuate_changes (s : State) : Changes [.words, .regimes, .doors, .pairs, .exits, .signs, .reports]
    s (State.groupsSeeEvacuate s) := by
  unfold State.groupsSeeEvacuate
  try dsimp only
  repeat' first | with_reducible exact Changes.refl _ _
                | with_reducible refine (State.failSetting_changes ..).after (by decide) ?_
                | with_reducible refine (State.takeStaged_changes ..).after (by decide) ?_
                | with_reducible refine Changes.trans ?_ (State.each_changes (fun n t => ?_)) | split

theorem execSegmentExpiry_changes (g : Nat) (s : State) :
    ∃ t, execSegmentExpiry g s = .next t ∧ Changes [.words, .regimes, .doors, .pairs, .exits, .signs, .reports, .replies] s t := by
  refine ⟨_, rfl, (State.pump_changes _).after (by decide) ?_⟩
  repeat' first | with_reducible exact Changes.refl _ _
                | with_reducible refine (State.expireSegment_changes ..).after (by decide) ?_ | split

theorem State.expireExitTime_changes (s : State) (g : Nat) : Changes [.words, .regimes, .doors, .pairs, .exits, .signs, .reports]
    s (State.expireExitTime s g) := by
  unfold State.expireExitTime
  try dsimp only
  repeat' first | with_reducible exact Changes.refl _ _
                | with_reducible refine (State.changeGroup_changes ..).after (by decide) ?_
                | with_reducible refine (State.report_changes ..).after (by decide) ?_
                | with_reducible refine (State.failSetting_changes ..).after (by decide) ?_ | split

theorem execExitTimeExpiry_changes (g : Nat) (s : State) :
    ∃ t, execExitTimeExpiry g s = .next t ∧ Changes [.words, .regimes, .doors, .pairs, .exits, .signs, .reports, .replies] s t := by
  refine ⟨_, rfl, (State.pump_changes _).after (by decide) ?_⟩
  repeat' first | with_reducible exact Changes.refl _ _
                | with_reducible refine (State.expireExitTime_changes ..).after (by decide) ?_ | split

theorem execRetryTimerExpiry_changes (g : Nat) (s : State) :
    ∃ t, execRetryTimerExpiry g s = .next t ∧ Changes [.words, .regimes, .doors, .pairs, .exits, .signs, .reports, .replies] s t := by
  refine ⟨_, rfl, (State.pump_changes _).after (by decide) ?_⟩
  repeat' first | with_reducible exact Changes.refl _ _
                | with_reducible refine (State.putGroup_changes ..).after (by decide) ?_
                | with_reducible refine (State.applyTarget_changes ..).after (by decide) ?_ | split

theorem serveStageSegment_changes (tag : Byte) (g : Nat) (target : Option Mode) (minutes : Nat) (repeats : Bool) (s : State) : Changes [.words, .regimes, .doors, .pairs, .exits, .signs, .reports, .replies]
    s (serveStageSegment tag g target minutes repeats s) := by
  unfold serveStageSegment
  try dsimp only
  repeat' first | with_reducible exact Changes.refl _ _
                | with_reducible refine (State.refuse_changes ..).after (by decide) ?_
                | with_reducible refine (State.putGroup_changes ..).after (by decide) ?_
                | with_reducible refine (State.takeStaged_changes ..).after (by decide) ?_
                | with_reducible refine (State.reply_changes ..).after (by decide) ?_ | split

theorem execStageSegment_changes (tag : Byte) (g : Nat) (target : Option Mode) (minutes : Nat) (repeats : Bool) (s : State) :
    ∃ t, execStageSegment tag g target minutes repeats s = .next t ∧ Changes [.words, .regimes, .doors, .pairs, .exits, .signs, .holder, .discards, .reports, .replies] s t :=
  request_changes (by decide) ((serveStageSegment_changes ..).mono (by decide))

theorem serveSetMode_changes (tag : Byte) (g : Nat) (mode : Option Mode) (s : State) : Changes [.words, .regimes, .doors, .pairs, .exits, .signs, .reports, .replies]
    s (serveSetMode tag g mode s) := by
  unfold serveSetMode
  try dsimp only
  repeat' first | with_reducible exact Changes.refl _ _
                | with_reducible refine (State.refuse_changes ..).after (by decide) ?_
                | with_reducible refine (State.applyTarget_changes ..).after (by decide) ?_
                | with_reducible refine (State.accept_changes ..).after (by decide) ?_ | split

theorem execSetMode_changes (tag : Byte) (g : Nat) (mode : Option Mode) (s : State) :
    ∃ t, execSetMode tag g mode s = .next t ∧ Changes [.words, .regimes, .doors, .pairs, .exits, .signs, .holder, .discards, .reports, .replies] s t :=
  request_changes (by decide) ((serveSetMode_changes ..).mono (by decide))

theorem serveCfgGroup_changes (tag : Byte) (g exitTime : Nat) (powerOn : Option Mode) (s : State) : Changes [.regimes, .replies]
    s (serveCfgGroup tag g exitTime powerOn s) := by
  unfold serveCfgGroup
  try dsimp only
  repeat' first | with_reducible exact Changes.refl _ _
                | with_reducible refine (State.refuse_changes ..).after (by decide) ?_
                | with_reducible refine (State.putGroup_changes ..).after (by decide) ?_
                | with_reducible refine (State.acceptClamped_changes ..).after (by decide) ?_ | split

theorem execCfgGroup_changes (tag : Byte) (g exitTime : Nat) (powerOn : Option Mode) (s : State) :
    ∃ t, execCfgGroup tag g exitTime powerOn s = .next t ∧ Changes [.regimes, .holder, .discards, .reports, .replies] s t :=
  request_changes (by decide) ((serveCfgGroup_changes ..).mono (by decide))

theorem serveGetGroup_changes (tag : Byte) (g : Nat) (s : State) : Changes [.replies]
    s (serveGetGroup tag g s) := by
  unfold serveGetGroup
  try dsimp only
  repeat' first | with_reducible exact Changes.refl _ _
                | with_reducible refine (State.refuse_changes ..).after (by decide) ?_
                | with_reducible refine (State.reply_changes ..).after (by decide) ?_ | split

theorem execGetGroup_changes (tag : Byte) (g : Nat) (s : State) :
    ∃ t, execGetGroup tag g s = .next t ∧ Changes [.holder, .discards, .reports, .replies] s t :=
  request_changes (by decide) ((serveGetGroup_changes ..).mono (by decide))

end Sys2Proof.Machine
end

