-- ==== Sys2Proof/Laws/FireControl.lean ====
section
/-! SUPPORT. Which parts of the state each operation of Machine/FireControl.lean touches, and that it keeps the bounds. -/

namespace Sys2Proof.Machine

theorem State.reportEvacuation_changes (s : State) : Changes [.reports]
    s (State.reportEvacuation s) := by
  unfold State.reportEvacuation
  try dsimp only
  repeat' first | with_reducible exact Changes.refl _ _
                | with_reducible refine (State.report_changes ..).after (by decide) ?_

theorem State.handEvacuate_changes (s : State) : Changes [.words, .regimes, .doors, .latch, .pairs, .quiet, .calls, .exits, .signs, .lamps, .lampGroups, .reports]
    s s.handEvacuate := by
  unfold State.handEvacuate
  refine (State.lampsSeeEvacuate_changes _).after (by decide) ?_
  refine (State.reroute_changes _ _).after (by decide) ?_
  refine (State.callsSeeEvacuate_changes _).after (by decide) ?_
  refine (State.guardSeesEvacuate_changes _).after (by decide) ?_
  refine (State.groupsSeeEvacuate_changes _).after (by decide) ?_
  exact (State.doorsSeeEvacuate_changes s).mono (by decide)

theorem State.recomputeEvacuate_changes (s : State) (was flag : Bool) : Changes [.words, .silenced, .regimes, .doors, .latch, .pairs, .quiet, .calls, .exits, .signs, .lamps, .lampGroups, .reports]
    s (s.recomputeEvacuate was flag) := by
  have h₁ : Changes [.words, .silenced, .regimes, .doors, .latch, .pairs, .quiet, .calls, .exits, .signs, .lamps, .lampGroups, .reports] s
      (if was && !s.evacuate then { s with fire.silenced := false } else s) := by
    split
    · exact (Changes.fire_silenced s false).mono (by decide)
    · exact .refl _ _
  unfold State.recomputeEvacuate
  dsimp only
  generalize (if was && !s.evacuate then { s with fire.silenced := false } else s : State) = t at h₁ ⊢
  have h₂ : Changes [.words, .silenced, .regimes, .doors, .latch, .pairs, .quiet, .calls, .exits, .signs, .lamps, .lampGroups, .reports] s
      (if was != t.evacuate || flag != t.fire.silenced then t.reportEvacuation else t) := by
    split
    · exact (State.reportEvacuation_changes t).after (by decide) h₁
    · exact h₁
  generalize (if was != t.evacuate || flag != t.fire.silenced then t.reportEvacuation else t) = u at h₂ ⊢
  split
  · exact (State.handEvacuate_changes u).after (by decide) h₂
  · exact h₂

theorem State.reportZone_changes (s : State) (z : Nat) (cause : FireCause) : Changes [.reports]
    s (State.reportZone s z cause) := by
  unfold State.reportZone
  try dsimp only
  repeat' first | with_reducible exact Changes.refl _ _
                | with_reducible refine (State.report_changes ..).after (by decide) ?_

theorem State.handZone_changes (s : State) (z : Nat) (leaves : Bool) : Changes [.words, .regimes, .doors, .pairs, .exits, .signs, .reports]
    s (State.handZone s z leaves) := by
  unfold State.handZone
  try dsimp only
  repeat' first | with_reducible exact Changes.refl _ _
                | with_reducible refine (State.doorsSeeZone_changes ..).after (by decide) ?_
                | with_reducible refine (State.groupSeesFire_changes ..).after (by decide) ?_
                | with_reducible refine (State.reroute_changes ..).after (by decide) ?_ | split

theorem State.changeZone_changes (s : State) (z : Nat) (x : Zone) (cause : FireCause) : Changes [.words, .zones, .silenced, .regimes, .doors, .latch, .pairs, .quiet, .calls, .exits, .signs, .lamps, .lampGroups, .reports]
    s (s.changeZone z x cause) := by
  have h : Changes [.words, .zones, .silenced, .regimes, .doors, .latch, .pairs, .quiet, .calls, .exits, .signs, .lamps, .lampGroups, .reports] s
      (if x.fire = .confirmed then { s.putZone z x with fire.silenced := false } else s.putZone z x) := by
    split
    · exact (Changes.fire_silenced _ false).after (by decide) ((s.putZone_changes z x).mono (by decide))
    · exact (s.putZone_changes z x).mono (by decide)
  unfold State.changeZone
  dsimp only
  refine (State.recomputeEvacuate_changes ..).after (by decide) ?_
  refine (State.handZone_changes ..).after (by decide) ?_
  exact (State.reportZone_changes ..).after (by decide) h

theorem State.detectorAlarm_changes (s : State) (p : Nat) : Changes [.words, .zones, .silenced, .regimes, .doors, .latch, .pairs, .quiet, .calls, .exits, .signs, .lamps, .lampGroups, .reports]
    s (s.detectorAlarm p) := by
  have hc := fun z x c => s.changeZone_changes z x c
  have hp := fun z x => (s.putZone_changes z x).mono (qs := [.words, .zones, .silenced, .regimes, .doors, .latch, .pairs, .quiet, .calls, .exits, .signs, .lamps, .lampGroups, .reports]) (by decide)
  unfold State.detectorAlarm
  dsimp only
  split
  · exact hp _ _
  · exact hc _ _ _
  · exact hc _ _ _
  · split
    · exact hc _ _ _
    · split <;> exact hc _ _ _

theorem State.manualReply_changes (s : State) (p : Nat) (operated : Bool) : Changes [.words, .zones, .silenced, .alarms, .regimes, .doors, .latch, .pairs, .quiet, .calls, .exits, .signs, .lamps, .lampGroups, .reports]
    s (s.manualReply p operated) := by
  unfold State.manualReply
  dsimp only
  split
  · exact .refl _ _
  · have h : ∀ x : Zone, Changes [.words, .zones, .silenced, .alarms, .regimes, .doors, .latch, .pairs, .quiet, .calls, .exits, .signs, .lamps, .lampGroups, .reports] s
        (((s.putZone (s.point p).cfg.zone x).setWord p (.alarm true)).raise .manualAlarm (.point p)) := fun x =>
      (State.raise_changes ..).after (by decide) ((State.setWord_changes ..).after (by decide)
        ((s.putZone_changes _ x).mono (by decide)))
    split
    · exact h _
    · exact (State.changeZone_changes ..).after (by decide) (h _)

theorem State.expireZone_changes (s : State) (z : Nat) : Changes [.words, .zones, .silenced, .regimes, .doors, .latch, .pairs, .quiet, .calls, .exits, .signs, .lamps, .lampGroups, .reports]
    s (State.expireZone s z) := by
  unfold State.expireZone
  try dsimp only
  repeat' first | with_reducible exact Changes.refl _ _
                | with_reducible refine (State.changeZone_changes ..).after (by decide) ?_

theorem execAcceptTimerExpiry_changes (z : Nat) (s : State) :
    ∃ t, execAcceptTimerExpiry z s = .next t ∧ Changes [.words, .zones, .silenced, .regimes, .doors, .latch, .pairs, .quiet, .calls, .exits, .signs, .lamps, .lampGroups, .reports, .replies] s t := by
  refine ⟨_, rfl, (State.pump_changes _).after (by decide) ?_⟩
  repeat' first | with_reducible exact Changes.refl _ _
                | with_reducible refine (State.expireZone_changes ..).after (by decide) ?_ | split

theorem execInvestigationTimerExpiry_changes (z : Nat) (s : State) :
    ∃ t, execInvestigationTimerExpiry z s = .next t ∧ Changes [.words, .zones, .silenced, .regimes, .doors, .latch, .pairs, .quiet, .calls, .exits, .signs, .lamps, .lampGroups, .reports, .replies] s t := by
  refine ⟨_, rfl, (State.pump_changes _).after (by decide) ?_⟩
  repeat' first | with_reducible exact Changes.refl _ _
                | with_reducible refine (State.expireZone_changes ..).after (by decide) ?_ | split

theorem serveAcceptFire_changes (tag : Byte) (z : Nat) (s : State) : Changes [.words, .zones, .silenced, .regimes, .doors, .latch, .pairs, .quiet, .calls, .exits, .signs, .lamps, .lampGroups, .reports, .replies]
    s (serveAcceptFire tag z s) := by
  unfold serveAcceptFire
  try dsimp only
  repeat' first | with_reducible exact Changes.refl _ _
                | with_reducible refine (State.refuse_changes ..).after (by decide) ?_
                | with_reducible refine (State.changeZone_changes ..).after (by decide) ?_
                | with_reducible refine (State.accept_changes ..).after (by decide) ?_ | split

theorem execAcceptFire_changes (tag : Byte) (z : Nat) (s : State) :
    ∃ t, execAcceptFire tag z s = .next t ∧ Changes [.words, .zones, .silenced, .regimes, .doors, .latch, .pairs, .quiet, .calls, .exits, .signs, .lamps, .lampGroups, .holder, .discards, .reports, .replies] s t :=
  request_changes (by decide) ((serveAcceptFire_changes ..).mono (by decide))

theorem serveConfirmFire_changes (tag : Byte) (z : Nat) (s : State) : Changes [.words, .zones, .silenced, .regimes, .doors, .latch, .pairs, .quiet, .calls, .exits, .signs, .lamps, .lampGroups, .reports, .replies]
    s (serveConfirmFire tag z s) := by
  unfold serveConfirmFire
  try dsimp only
  repeat' first | with_reducible exact Changes.refl _ _
                | with_reducible refine (State.refuse_changes ..).after (by decide) ?_
                | with_reducible refine (State.changeZone_changes ..).after (by decide) ?_
                | with_reducible refine (State.accept_changes ..).after (by decide) ?_ | split

theorem execConfirmFire_changes (tag : Byte) (z : Nat) (s : State) :
    ∃ t, execConfirmFire tag z s = .next t ∧ Changes [.words, .zones, .silenced, .regimes, .doors, .latch, .pairs, .quiet, .calls, .exits, .signs, .lamps, .lampGroups, .holder, .discards, .reports, .replies] s t :=
  request_changes (by decide) ((serveConfirmFire_changes ..).mono (by decide))

theorem State.setSilenced_changes (s : State) (b : Bool) : Changes [.silenced, .reports] s (s.setSilenced b) := by
  unfold State.setSilenced
  split
  · exact .refl _ _
  · exact (State.reportEvacuation_changes _).after (by decide) ((Changes.fire_silenced s b).mono (by decide))

theorem serveSilence_changes (tag : Byte) (s : State) : Changes [.silenced, .reports, .replies]
    s (serveSilence tag s) := by
  unfold serveSilence
  try dsimp only
  repeat' first | with_reducible exact Changes.refl _ _
                | with_reducible refine (State.refuse_changes ..).after (by decide) ?_
                | with_reducible refine (State.setSilenced_changes ..).after (by decide) ?_
                | with_reducible refine (State.accept_changes ..).after (by decide) ?_ | split

theorem execSilence_changes (tag : Byte) (s : State) :
    ∃ t, execSilence tag s = .next t ∧ Changes [.silenced, .holder, .discards, .reports, .replies] s t :=
  request_changes (by decide) ((serveSilence_changes ..).mono (by decide))

theorem serveResound_changes (tag : Byte) (s : State) : Changes [.silenced, .reports, .replies]
    s (serveResound tag s) := by
  unfold serveResound
  try dsimp only
  repeat' first | with_reducible exact Changes.refl _ _
                | with_reducible refine (State.setSilenced_changes ..).after (by decide) ?_
                | with_reducible refine (State.accept_changes ..).after (by decide) ?_

theorem execResound_changes (tag : Byte) (s : State) :
    ∃ t, execResound tag s = .next t ∧ Changes [.silenced, .holder, .discards, .reports, .replies] s t :=
  request_changes (by decide) ((serveResound_changes ..).mono (by decide))

theorem State.takeEvacIn_changes (s : State) (active : Bool) : Changes [.words, .lines, .silenced, .alarms, .regimes, .doors, .latch, .pairs, .quiet, .calls, .exits, .signs, .lamps, .lampGroups, .reports]
    s (s.takeEvacIn active) := by
  have h : Changes [.words, .lines, .silenced, .alarms, .regimes, .doors, .latch, .pairs, .quiet, .calls, .exits, .signs, .lamps, .lampGroups, .reports]
      s { s with fire.evacIn := ⟨active, 0⟩ } := (Changes.fire_evacIn s _).mono (by decide)
  unfold State.takeEvacIn
  dsimp only
  refine (State.recomputeEvacuate_changes ..).after (by decide) ?_
  split
  · exact (State.raise_changes ..).after (by decide) h
  · exact h

theorem State.takeMainsOk_changes (s : State) (present : Bool) : Changes [.words, .lines, .alarms, .lamps, .lampGroups, .reports]
    s (s.takeMainsOk present) :=
  (State.lampsSeeMains_changes _).after (by decide) ((Changes.fire_mainsOk s _).mono (by decide))

theorem execEvacInChange_changes (active : Bool) (s : State) :
    ∃ t, execEvacInChange active s = .next t ∧ Changes [.words, .lines, .silenced, .alarms, .regimes, .doors, .latch, .pairs, .quiet, .calls, .exits, .signs, .lamps, .lampGroups, .reports, .replies] s t := by
  refine ⟨_, rfl, (State.pump_changes _).after (by decide) ?_⟩
  repeat' first | with_reducible exact Changes.refl _ _
                | with_reducible refine (State.takeEvacIn_changes ..).after (by decide) ?_ | split

theorem execMainsOkChange_changes (present : Bool) (s : State) :
    ∃ t, execMainsOkChange present s = .next t ∧ Changes [.words, .lines, .alarms, .lamps, .lampGroups, .reports, .replies] s t := by
  refine ⟨_, rfl, (State.pump_changes _).after (by decide) ?_⟩
  repeat' first | with_reducible exact Changes.refl _ _
                | with_reducible refine (State.takeMainsOk_changes ..).after (by decide) ?_ | split

theorem State.sampleEvacIn_changes (s : State) (level : Bool) : Changes [.words, .lines, .silenced, .alarms, .regimes, .doors, .latch, .pairs, .quiet, .calls, .exits, .signs, .lamps, .lampGroups, .reports]
    s (s.sampleEvacIn level) := by
  unfold State.sampleEvacIn
  dsimp only
  split
  · exact (Changes.fire_evacIn s _).mono (by decide)
  · split
    · exact (Changes.fire_evacIn s _).mono (by decide)
    · exact s.takeEvacIn_changes level

theorem State.sampleMainsOk_changes (s : State) (level : Bool) : Changes [.words, .lines, .alarms, .lamps, .lampGroups, .reports]
    s (s.sampleMainsOk level) := by
  unfold State.sampleMainsOk
  dsimp only
  split
  · exact (Changes.fire_mainsOk s _).mono (by decide)
  · split
    · exact (Changes.fire_mainsOk s _).mono (by decide)
    · exact s.takeMainsOk_changes level

theorem execLineInputSample_changes (evacIn mainsOk : Bool) (s : State) :
    ∃ t, execLineInputSample evacIn mainsOk s = .next t ∧ Changes [.words, .lines, .silenced, .alarms, .regimes, .doors, .latch, .pairs, .quiet, .calls, .exits, .signs, .lamps, .lampGroups, .reports, .replies] s t := by
  refine ⟨_, rfl, (State.pump_changes _).after (by decide) ?_⟩
  repeat' first | with_reducible exact Changes.refl _ _
                | with_reducible refine (State.sampleEvacIn_changes ..).after (by decide) ?_
                | with_reducible refine (State.sampleMainsOk_changes ..).after (by decide) ?_

theorem State.zoneSeesMode_changes (s : State) (z : Nat) : Changes [.words, .doors, .pairs, .exits, .signs, .reports]
    s (State.zoneSeesMode s z) := by
  unfold State.zoneSeesMode
  try dsimp only
  repeat' first | with_reducible exact Changes.refl _ _
                | with_reducible refine (State.placeDoor_changes ..).after (by decide) ?_
                | with_reducible refine (State.refreshLamps_changes ..).after (by decide) ?_
                | with_reducible refine Changes.trans ?_ (State.each_changes (fun n t => ?_))
                | with_reducible refine Changes.trans ?_ (State.doorEvent_changes (by decide) (fun t => ?_))

theorem serveCfgZone_changes (tag : Byte) (z : Nat) (c : ZoneSetting) (s : State) : Changes [.words, .zones, .doors, .pairs, .exits, .signs, .reports, .replies]
    s (serveCfgZone tag z c s) := by
  unfold serveCfgZone
  try dsimp only
  repeat' first | with_reducible exact Changes.refl _ _
                | with_reducible refine (State.refuse_changes ..).after (by decide) ?_
                | with_reducible refine (State.putZone_changes ..).after (by decide) ?_
                | with_reducible refine (State.zoneSeesMode_changes ..).after (by decide) ?_
                | with_reducible refine (State.accept_changes ..).after (by decide) ?_ | split

theorem execCfgZone_changes (tag : Byte) (z : Nat) (c : ZoneSetting) (s : State) :
    ∃ t, execCfgZone tag z c s = .next t ∧ Changes [.words, .zones, .doors, .pairs, .exits, .signs, .holder, .discards, .reports, .replies] s t :=
  request_changes (by decide) ((serveCfgZone_changes ..).mono (by decide))

theorem serveGetZone_changes (tag : Byte) (z : Nat) (s : State) : Changes [.replies]
    s (serveGetZone tag z s) := by
  unfold serveGetZone
  try dsimp only
  repeat' first | with_reducible exact Changes.refl _ _
                | with_reducible refine (State.refuse_changes ..).after (by decide) ?_
                | with_reducible refine (State.reply_changes ..).after (by decide) ?_ | split

theorem execGetZone_changes (tag : Byte) (z : Nat) (s : State) :
    ∃ t, execGetZone tag z s = .next t ∧ Changes [.holder, .discards, .reports, .replies] s t :=
  request_changes (by decide) ((serveGetZone_changes ..).mono (by decide))

end Sys2Proof.Machine
end

