-- ==== Sys2Proof/Laws/Detection.lean ====
section
/-! SUPPORT. Which parts of the state each operation of Machine/Detection.lean touches, and that it keeps the bounds. -/

namespace Sys2Proof.Machine

theorem State.seeDirty_changes (s : State) (p : Nat) (was is : Bool) : Changes [.alarms, .reports]
    s (State.seeDirty s p was is) := by
  unfold State.seeDirty
  try dsimp only
  repeat' first | with_reducible exact Changes.refl _ _
                | with_reducible refine (State.raise_changes ..).after (by decide) ?_
                | with_reducible refine (State.endAlarm_changes ..).after (by decide) ?_ | split

theorem State.reportDetector_changes (s : State) (p : Nat) (d : Detector) : Changes [.reports]
    s (State.reportDetector s p d) := by
  unfold State.reportDetector
  try dsimp only
  repeat' first | with_reducible exact Changes.refl _ _
                | with_reducible refine (State.report_changes ..).after (by decide) ?_

theorem State.seeDetState_changes (s : State) (p : Nat) (old : DetState) (d : Detector) : Changes [.words, .zones, .silenced, .alarms, .regimes, .doors, .latch, .pairs, .quiet, .calls, .exits, .signs, .lamps, .lampGroups, .reports]
    s (State.seeDetState s p old d) := by
  unfold State.seeDetState
  try dsimp only
  repeat' first | with_reducible exact Changes.refl _ _
                | with_reducible refine (State.reportDetector_changes ..).after (by decide) ?_
                | with_reducible refine (State.setWord_changes ..).after (by decide) ?_
                | with_reducible refine (State.raise_changes ..).after (by decide) ?_
                | with_reducible refine (State.detectorAlarm_changes ..).after (by decide) ?_ | split

theorem State.detectorReply_changes (s : State) (p r : Nat) : Changes [.words, .detectors, .zones, .silenced, .alarms, .regimes, .doors, .latch, .pairs, .quiet, .calls, .exits, .signs, .lamps, .lampGroups, .reports]
    s (State.detectorReply s p r) := by
  unfold State.detectorReply
  try dsimp only
  repeat' first | with_reducible exact Changes.refl _ _
                | with_reducible refine (State.raise_changes ..).after (by decide) ?_
                | with_reducible refine (State.putDetector_changes ..).after (by decide) ?_
                | with_reducible refine (State.seeDirty_changes ..).after (by decide) ?_
                | with_reducible refine (State.seeDetState_changes ..).after (by decide) ?_ | split

theorem State.breakStream_changes (s : State) (p : Nat) : Changes [.detectors]
    s (State.breakStream s p) := by
  unfold State.breakStream
  try dsimp only
  repeat' first | with_reducible exact Changes.refl _ _
                | with_reducible refine (State.putDetector_changes ..).after (by decide) ?_

theorem State.isolateDetector_changes (s : State) (p : Nat) : Changes [.detectors]
    s (State.isolateDetector s p) := by
  unfold State.isolateDetector
  try dsimp only
  repeat' first | with_reducible exact Changes.refl _ _
                | with_reducible refine (State.putDetector_changes ..).after (by decide) ?_

theorem State.freeDetector_changes (s : State) (p : Nat) : Changes [.detectors]
    s (State.freeDetector s p) := by
  unfold State.freeDetector
  try dsimp only
  repeat' first | with_reducible exact Changes.refl _ _
                | with_reducible refine (State.putDetector_changes ..).after (by decide) ?_

theorem State.transfer_changes (s : State) (n : Nat) : Changes [.profiles, .reports]
    s (State.transfer s n) := by
  unfold State.transfer
  try dsimp only
  repeat' first | with_reducible exact Changes.refl _ _
                | with_reducible refine (State.putProfile_changes ..).after (by decide) ?_
                | with_reducible refine (State.report_changes ..).after (by decide) ?_

theorem State.testProfiles_changes (s : State) : Changes [.profiles, .reports]
    s (State.testProfiles s) := by
  unfold State.testProfiles
  try dsimp only
  repeat' first | with_reducible exact Changes.refl _ _
                | with_reducible refine (State.transfer_changes ..).after (by decide) ?_
                | with_reducible refine Changes.trans ?_ (State.each_changes (fun n t => ?_)) | split

theorem serveCfgProfile_changes (tag : Byte) (n : Nat) (v : ProfileValues) (s : State) : Changes [.profiles, .replies]
    s (serveCfgProfile tag n v s) := by
  unfold serveCfgProfile
  try dsimp only
  repeat' first | with_reducible exact Changes.refl _ _
                | with_reducible refine (State.refuse_changes ..).after (by decide) ?_
                | with_reducible refine (State.putProfile_changes ..).after (by decide) ?_
                | with_reducible refine (State.reply_changes ..).after (by decide) ?_ | split

theorem execCfgProfile_changes (tag : Byte) (n : Nat) (v : ProfileValues) (s : State) :
    ∃ t, execCfgProfile tag n v s = .next t ∧ Changes [.profiles, .holder, .discards, .reports, .replies] s t :=
  request_changes (by decide) ((serveCfgProfile_changes ..).mono (by decide))

theorem execDriftChance_changes (p : Nat) (s : State) :
    ∃ t, execDriftChance p s = .next t ∧ Changes [.detectors, .alarms, .reports, .replies] s t := by
  refine ⟨_, rfl, (State.pump_changes _).after (by decide) ?_⟩
  repeat' first | with_reducible exact Changes.refl _ _
                | with_reducible refine (State.putDetector_changes ..).after (by decide) ?_
                | with_reducible refine (State.seeDirty_changes ..).after (by decide) ?_ | split

theorem execHeatWindowCapture_changes (p : Nat) (s : State) :
    ∃ t, execHeatWindowCapture p s = .next t ∧ Changes [.detectors, .reports, .replies] s t := by
  refine ⟨_, rfl, (State.pump_changes _).after (by decide) ?_⟩
  repeat' first | with_reducible exact Changes.refl _ _
                | with_reducible refine (State.putDetector_changes ..).after (by decide) ?_ | split

end Sys2Proof.Machine
end

