-- ==== Sys2Proof/Laws/AlarmList.lean ====
section
/-! SUPPORT. Which parts of the state each operation of Machine/AlarmList.lean touches, and that it keeps the bounds. -/

namespace Sys2Proof.Machine

theorem State.restFire_changes (s : State) : Changes [.words, .detectors, .zones, .silenced, .alarms]
    s s.restFire := by
  unfold State.restFire
  dsimp only
  refine Changes.trans ?_ (State.each_changes fun n t => (State.setWord_changes ..).mono (by decide))
  refine ⟨fun q hq => ?_, fun h => h.filter _, fun h => h, id⟩
  cases q <;> first | exact absurd (by decide) hq | simp [Part.same, State.point]

theorem State.fireReset_changes (s : State) : Changes [.words, .detectors, .zones, .silenced, .alarms, .regimes, .doors, .latch, .pairs, .quiet, .calls, .exits, .signs, .lamps, .lampGroups, .reports]
    s (State.fireReset s) := by
  unfold State.fireReset
  try dsimp only
  repeat' first | with_reducible exact Changes.refl _ _
                | with_reducible refine (State.restFire_changes ..).after (by decide) ?_
                | with_reducible refine (State.reportZone_changes ..).after (by decide) ?_
                | with_reducible refine (State.handZone_changes ..).after (by decide) ?_
                | with_reducible refine (State.recomputeEvacuate_changes ..).after (by decide) ?_
                | with_reducible refine (State.raise_changes ..).after (by decide) ?_
                | with_reducible refine Changes.trans ?_ (State.each_changes (fun n t => ?_)) | split

theorem serveFireReset_changes (tag : Byte) (s : State) : Changes [.words, .detectors, .zones, .silenced, .alarms, .regimes, .doors, .latch, .pairs, .quiet, .calls, .exits, .signs, .lamps, .lampGroups, .reports, .replies]
    s (serveFireReset tag s) := by
  unfold serveFireReset
  try dsimp only
  repeat' first | with_reducible exact Changes.refl _ _
                | with_reducible refine (State.fireReset_changes ..).after (by decide) ?_
                | with_reducible refine (State.refuse_changes ..).after (by decide) ?_
                | with_reducible refine (State.accept_changes ..).after (by decide) ?_ | split

theorem execFireReset_changes (tag : Byte) (s : State) :
    ∃ t, execFireReset tag s = .next t ∧ Changes [.words, .detectors, .zones, .silenced, .alarms, .regimes, .doors, .latch, .pairs, .quiet, .calls, .exits, .signs, .lamps, .lampGroups, .holder, .discards, .reports, .replies] s t :=
  request_changes (by decide) ((serveFireReset_changes ..).mono (by decide))

theorem State.acceptEntries_changes (s : State) (i : Instr) (sel : Entry → Bool) : Changes [.alarms, .replies]
    s (s.acceptEntries i sel) :=
  (State.reply_changes ..).after (by decide) ((Changes.alarmList s _ fun h => h.accepted sel).mono (by decide))

theorem serveAcceptAlarm_changes (tag : Byte) (target : AcceptTarget) (s : State) : Changes [.alarms, .replies]
    s (serveAcceptAlarm tag target s) := by
  unfold serveAcceptAlarm
  try dsimp only
  repeat' first | with_reducible exact Changes.refl _ _
                | with_reducible refine (State.refuse_changes ..).after (by decide) ?_
                | with_reducible refine (State.acceptEntries_changes ..).after (by decide) ?_ | split

theorem execAcceptAlarm_changes (tag : Byte) (target : AcceptTarget) (s : State) :
    ∃ t, execAcceptAlarm tag target s = .next t ∧ Changes [.alarms, .holder, .discards, .reports, .replies] s t :=
  request_changes (by decide) ((serveAcceptAlarm_changes ..).mono (by decide))

theorem serveGetAlarms_changes (tag : Byte) (page : Nat) (s : State) : Changes [.alarms, .replies]
    s (serveGetAlarms tag page s) := by
  unfold serveGetAlarms
  dsimp only
  split
  · exact (State.refuse_changes ..).mono (by decide)
  · refine (State.reply_changes ..).after (by decide) ⟨fun q hq => ?_, fun h => h, fun h => h, id⟩
    cases q <;> first | exact absurd (by decide) hq | simp [Part.same, State.point]

theorem execGetAlarms_changes (tag : Byte) (page : Nat) (s : State) :
    ∃ t, execGetAlarms tag page s = .next t ∧ Changes [.alarms, .holder, .discards, .reports, .replies] s t :=
  request_changes (by decide) ((serveGetAlarms_changes ..).mono (by decide))

end Sys2Proof.Machine
end

