-- ==== Sys2Proof/Laws/Frames.lean ====
section
/-! SUPPORT. Lengths of the pieces of a frame. -/

namespace Sys2Proof.Machine

@[simp] theorem bytes16_length (v : BitVec 16) : (bytes16 v).length = 2 := rfl

@[simp] theorem bytes32_length (n : Nat) : (bytes32 n).length = 4 := rfl

theorem frameBytes_length (kind tag : Byte) (body : List Byte) :
    (frameBytes kind tag body).length = body.length + 6 := by
  simp [frameBytes]

@[simp] theorem objBytes_length (o : Obj) : (objBytes o).length = 2 := by cases o <;> rfl

@[simp] theorem entryHead_length (p : Option Nat) (k : AlarmKind) (o : Obj) : (entryHead p k o).length = 5 := by
  simp [entryHead]

@[simp] theorem entryTail_length (e : Option Entry) : (entryTail e).length = 10 := by
  cases e <;> simp [entryTail]

end Sys2Proof.Machine
end

