-- ==== Sys2Proof/Laws/Points.lean ====
section
/-! SUPPORT. Which parts of the state each operation of Machine/Points.lean touches, and that it keeps the bounds. -/

namespace Sys2Proof.Machine

theorem State.scanEnd_changes (s : State) (l : LoopId) : Changes [.words, .profiles, .alarms, .doors, .latch, .scanCounts, .pairs, .exits, .signs, .reports]
    s (State.scanEnd s l) := by
  unfold State.scanEnd
  try dsimp only
  repeat' first | with_reducible exact Changes.refl _ _
                | with_reducible refine (State.testProfiles_changes ..).after (by decide) ?_
                | with_reducible refine (State.doorsSeeScanEnd_changes ..).after (by decide) ?_

theorem State.advance_changes (s : State) (l : LoopId) (q : Nat) : Changes [.words, .scanners, .profiles, .alarms, .doors, .latch, .scanCounts, .pairs, .exits, .signs, .reports]
    s (State.advance s l q) := by
  unfold State.advance
  try dsimp only
  repeat' first | with_reducible exact Changes.refl _ _
                | with_reducible refine (State.putScanner_changes ..).after (by decide) ?_
                | with_reducible refine (State.scanEnd_changes ..).after (by decide) ?_ | split

theorem State.reposition_changes (s : State) (l : LoopId) : Changes [.scanners]
    s (State.reposition s l) := by
  unfold State.reposition
  try dsimp only
  repeat' first | with_reducible exact Changes.refl _ _
                | with_reducible refine (State.putScanner_changes ..).after (by decide) ?_ | split

theorem State.startScan_changes (s : State) (l : LoopId) : Changes [.clock, .words, .scanners, .profiles, .alarms, .doors, .latch, .scanCounts, .pairs, .exits, .signs, .reports]
    s (s.startScan l) := by
  have h : ∀ t, Changes [.clock] s t → Changes [.clock, .words, .scanners, .profiles, .alarms, .doors, .latch, .scanCounts, .pairs, .exits, .signs, .reports]
      s ((t.signsSeeScanStart l).advance l 0) := fun t ht =>
    (State.advance_changes ..).after (by decide) ((State.signsSeeScanStart_changes ..).after (by decide)
      (ht.mono (by decide)))
  unfold State.startScan
  dsimp only
  refine h _ ?_
  cases l
  · exact Changes.clock_scanA s Config.ticksPerScan
  · exact Changes.clock_scanB s Config.ticksPerScan

theorem execScanStart_changes (l : LoopId) (s : State) :
    ∃ t, execScanStart l s = .next t ∧ Changes [.clock, .words, .scanners, .profiles, .alarms, .doors, .latch, .scanCounts, .pairs, .exits, .signs, .reports, .replies] s t := by
  refine ⟨_, rfl, (State.pump_changes _).after (by decide) ?_⟩
  repeat' first | with_reducible exact Changes.refl _ _
                | with_reducible refine (State.startScan_changes ..).after (by decide) ?_ | split

theorem State.ownerLoses_changes (s : State) (p : Nat) : Changes [.words, .detectors, .lamps, .reports]
    s (State.ownerLoses s p) := by
  unfold State.ownerLoses
  try dsimp only
  repeat' first | with_reducible exact Changes.refl _ _
                | with_reducible refine (State.breakStream_changes ..).after (by decide) ?_
                | with_reducible refine (State.lampLost_changes ..).after (by decide) ?_ | split

theorem State.raiseHealth_changes (s : State) (p : Nat) : Changes [.alarms, .reports]
    s (State.raiseHealth s p) := by
  unfold State.raiseHealth
  try dsimp only
  repeat' first | with_reducible exact Changes.refl _ _
                | with_reducible refine (State.raise_changes ..).after (by decide) ?_ | split

theorem State.endHealth_changes (s : State) (p : Nat) (old : Health) : Changes [.alarms, .reports]
    s (State.endHealth s p old) := by
  unfold State.endHealth
  try dsimp only
  repeat' first | with_reducible exact Changes.refl _ _
                | with_reducible refine (State.endAlarm_changes ..).after (by decide) ?_ | split

theorem State.setHealth_changes (s : State) (p : Nat) (h : Health) : Changes [.points, .words, .detectors, .alarms, .lamps, .reports]
    s (State.setHealth s p h) := by
  unfold State.setHealth
  try dsimp only
  repeat' first | with_reducible exact Changes.refl _ _ | rfl
                | with_reducible refine (State.putPoint_keeps _ _ ?_ ?_).after (by decide) ?_
                | with_reducible refine (State.report_changes ..).after (by decide) ?_
                | with_reducible refine (State.endHealth_changes ..).after (by decide) ?_
                | with_reducible refine (State.raiseHealth_changes ..).after (by decide) ?_
                | with_reducible refine (State.ownerLoses_changes ..).after (by decide) ?_ | split

theorem State.press_changes (s : State) (p : Nat) : Changes [.presses, .words, .alarms, .calls, .reports]
    s (s.press p) := by
  unfold State.press
  split
  · exact (State.raiseAndEnd_changes s _ (by decide)).mono (by decide)
  · exact (State.callPress_changes ..).mono (by decide)

theorem State.deliver_changes (s : State) (p : Nat) (i : Input) : Changes [.presses, .words, .detectors, .zones, .silenced, .alarms, .regimes, .doors, .latch, .pairs, .quiet, .marks, .calls, .exits, .signs, .lamps, .lampGroups, .reports]
    s (State.deliver s p i) := by
  unfold State.deliver
  try dsimp only
  repeat' first | with_reducible exact Changes.refl _ _
                | with_reducible refine (State.detectorReply_changes ..).after (by decide) ?_
                | with_reducible refine (State.manualReply_changes ..).after (by decide) ?_
                | with_reducible refine (State.presenceReply_changes ..).after (by decide) ?_
                | with_reducible refine (State.doorReply_changes ..).after (by decide) ?_
                | with_reducible refine (State.press_changes ..).after (by decide) ?_
                | with_reducible refine (State.lampReply_changes ..).after (by decide) ?_
                | with_reducible refine (State.signReply_changes ..).after (by decide) ?_ | split

theorem State.goodReply_changes (s : State) (p : Nat) (i : Input) : Changes [.points, .presses, .words, .detectors, .zones, .silenced, .alarms, .regimes, .doors, .latch, .pairs, .quiet, .marks, .calls, .exits, .signs, .lamps, .lampGroups, .reports]
    s (State.goodReply s p i) := by
  unfold State.goodReply
  try dsimp only
  repeat' first | with_reducible exact Changes.refl _ _ | rfl
                | with_reducible refine (State.putPoint_keeps _ _ ?_ ?_).after (by decide) ?_
                | with_reducible refine (State.setHealth_changes ..).after (by decide) ?_
                | with_reducible refine (State.deliver_changes ..).after (by decide) ?_

theorem State.wrongReply_changes (s : State) (p : Nat) : Changes [.points, .words, .detectors, .alarms, .lamps, .reports]
    s (State.wrongReply s p) := by
  unfold State.wrongReply
  try dsimp only
  repeat' first | with_reducible exact Changes.refl _ _ | rfl
                | with_reducible refine (State.putPoint_keeps _ _ ?_ ?_).after (by decide) ?_
                | with_reducible refine (State.setHealth_changes ..).after (by decide) ?_

theorem State.miss_changes (s : State) (p : Nat) : Changes [.points, .words, .detectors, .alarms, .lamps, .reports]
    s (State.miss s p) := by
  unfold State.miss
  try dsimp only
  repeat' first | with_reducible exact Changes.refl _ _ | rfl
                | with_reducible refine (State.putPoint_keeps _ _ ?_ ?_).after (by decide) ?_
                | with_reducible refine (State.setHealth_changes ..).after (by decide) ?_ | split

theorem State.takeAnswer_changes (s : State) (p : Nat) (a : Answer) : Changes [.points, .presses, .words, .detectors, .zones, .silenced, .alarms, .regimes, .doors, .latch, .pairs, .quiet, .marks, .calls, .exits, .signs, .lamps, .lampGroups, .reports]
    s (State.takeAnswer s p a) := by
  unfold State.takeAnswer
  try dsimp only
  repeat' first | with_reducible exact Changes.refl _ _
                | with_reducible refine (State.goodReply_changes ..).after (by decide) ?_
                | with_reducible refine (State.wrongReply_changes ..).after (by decide) ?_ | split

/-- The end of an exchange touches what its outcome does, and what the scanner's moving on does. -/
theorem State.endExchange_changes {ps : List Part} {s : State} {l : LoopId} {f : State → Nat → State}
    (hp : ∀ q ∈ [Part.words, .scanners, .profiles, .alarms, .doors, .latch, .scanCounts, .pairs, .exits, .signs, .reports], q ∈ ps) (hf : ∀ t p, Changes ps t (f t p)) : Changes ps s (s.endExchange l f) := by
  unfold State.endExchange
  split
  · refine (State.advance_changes ..).after hp ?_
    split
    · exact hf s _
    · exact .refl _ _
  · exact .refl _ _

theorem execPointReply_changes (l : LoopId) (a : Answer) (s : State) :
    ∃ t, execPointReply l a s = .next t ∧ Changes [.points, .presses, .words, .scanners, .detectors, .profiles, .zones, .silenced, .alarms, .regimes, .doors, .latch, .scanCounts, .pairs, .quiet, .marks, .calls, .exits, .signs, .lamps, .lampGroups, .reports, .replies] s t := by
  refine ⟨_, rfl, (State.pump_changes _).after (by decide) ?_⟩
  repeat' first | with_reducible exact Changes.refl _ _
                | with_reducible refine (State.takeAnswer_changes ..).after (by decide) ?_
                | with_reducible refine Changes.trans ?_ (State.endExchange_changes (by decide) (fun t p => ?_))

theorem execReplyWindowExpiry_changes (l : LoopId) (s : State) :
    ∃ t, execReplyWindowExpiry l s = .next t ∧ Changes [.points, .words, .scanners, .detectors, .profiles, .alarms, .doors, .latch, .scanCounts, .pairs, .exits, .signs, .lamps, .reports, .replies] s t := by
  refine ⟨_, rfl, (State.pump_changes _).after (by decide) ?_⟩
  repeat' first | with_reducible exact Changes.refl _ _
                | with_reducible refine (State.miss_changes ..).after (by decide) ?_
                | with_reducible refine Changes.trans ?_ (State.endExchange_changes (by decide) (fun t p => ?_))

theorem State.beginIsolation_changes (s : State) (p : Nat) : Changes [.words, .detectors, .alarms, .doors, .pairs, .marks, .signs, .lamps, .reports]
    s (State.beginIsolation s p) := by
  unfold State.beginIsolation
  try dsimp only
  repeat' first | with_reducible exact Changes.refl _ _
                | with_reducible refine (State.clearObject_changes ..).after (by decide) ?_
                | with_reducible refine (State.isolateDetector_changes ..).after (by decide) ?_
                | with_reducible refine (State.putPresence_changes ..).after (by decide) ?_
                | with_reducible refine (State.isolateDoor_changes ..).after (by decide) ?_
                | with_reducible refine (State.isolateLamp_changes ..).after (by decide) ?_
                | with_reducible refine (State.isolateSign_changes ..).after (by decide) ?_ | split

theorem State.endIsolation_changes (s : State) (p : Nat) : Changes [.presses, .words, .detectors, .alarms, .doors, .calls, .reports]
    s (State.endIsolation s p) := by
  unfold State.endIsolation
  try dsimp only
  repeat' first | with_reducible exact Changes.refl _ _
                | with_reducible refine (State.raiseHealth_changes ..).after (by decide) ?_
                | with_reducible refine (State.freeDetector_changes ..).after (by decide) ?_
                | with_reducible refine (State.freeDoor_changes ..).after (by decide) ?_
                | with_reducible refine (State.freeCall_changes ..).after (by decide) ?_ | split

theorem State.seeIsolation_changes (t s : State) (ps : List Nat) : Changes [.presses, .words, .detectors, .alarms, .doors, .pairs, .marks, .calls, .signs, .lamps, .reports]
    t (t.seeIsolation s ps) := by
  refine State.each_changes fun p u => ?_
  split
  · exact (State.beginIsolation_changes ..).mono (by decide)
  · split
    · exact (State.endIsolation_changes ..).mono (by decide)
    · exact .refl _ _

theorem State.isolatePoint_changes (s : State) (p : Nat) (x : Isolation) : Changes [.points, .presses, .words, .detectors, .alarms, .doors, .pairs, .marks, .calls, .signs, .lamps, .reports]
    s (State.isolatePoint s p x) := by
  unfold State.isolatePoint
  try dsimp only
  repeat' first | with_reducible exact Changes.refl _ _ | rfl
                | with_reducible refine (State.putPoint_keeps _ _ ?_ ?_).after (by decide) ?_
                | with_reducible refine (State.seeIsolation_changes ..).after (by decide) ?_
                | with_reducible refine (State.report_changes ..).after (by decide) ?_

theorem State.isolateZone_changes (s : State) (z : Nat) (x : Isolation) : Changes [.presses, .words, .detectors, .zones, .alarms, .doors, .pairs, .marks, .calls, .signs, .lamps, .reports]
    s (State.isolateZone s z x) := by
  unfold State.isolateZone
  try dsimp only
  repeat' first | with_reducible exact Changes.refl _ _
                | with_reducible refine (State.seeIsolation_changes ..).after (by decide) ?_
                | with_reducible refine (State.putZone_changes ..).after (by decide) ?_
                | with_reducible refine (State.report_changes ..).after (by decide) ?_

theorem State.replyAfter_changes (s : State) (standing : Bool) (i : Instr) (st : Status) : Changes [.replies, .store]
    s (s.replyAfter standing i st) := by
  unfold State.replyAfter
  split
  · refine ⟨fun q hq => ?_, id, fun h => h, id⟩
    cases q <;> first | exact absurd (by decide) hq | simp [Part.same, State.point]
  · exact (State.refuse_changes ..).mono (by decide)

theorem State.isolateTarget_changes (s : State) (x : Isolation) (target : Target) : Changes [.points, .presses, .words, .detectors, .zones, .alarms, .doors, .pairs, .marks, .calls, .signs, .lamps, .reports]
    s (s.isolateTarget x target) := by
  cases target with
  | point p => exact (State.isolatePoint_changes ..).mono (by decide)
  | zone z => exact (State.isolateZone_changes ..).mono (by decide)

theorem serveIsolate_changes (tag : Byte) (target : Target) (ask : IsolationAsk) (s : State) : Changes [.points, .presses, .words, .detectors, .zones, .alarms, .doors, .pairs, .marks, .calls, .signs, .lamps, .reports, .replies, .store]
    s (serveIsolate tag target ask s) := by
  unfold serveIsolate
  try dsimp only
  repeat' first | with_reducible exact Changes.refl _ _
                | with_reducible refine (State.refuse_changes ..).after (by decide) ?_
                | with_reducible refine (State.isolateTarget_changes ..).after (by decide) ?_
                | with_reducible refine (State.replyAfter_changes ..).after (by decide) ?_ | split

theorem execIsolate_changes (tag : Byte) (target : Target) (ask : IsolationAsk) (s : State) :
    ∃ t, execIsolate tag target ask s = .next t ∧ Changes [.points, .presses, .words, .detectors, .zones, .alarms, .doors, .pairs, .marks, .calls, .signs, .lamps, .holder, .discards, .reports, .replies, .store] s t :=
  request_changes (by decide) ((serveIsolate_changes ..).mono (by decide))

theorem serveRestoreIsolation_changes (tag : Byte) (target : Target) (s : State) : Changes [.points, .presses, .words, .detectors, .zones, .alarms, .doors, .pairs, .marks, .calls, .signs, .lamps, .reports, .replies, .store]
    s (serveRestoreIsolation tag target s) := by
  unfold serveRestoreIsolation
  try dsimp only
  repeat' first | with_reducible exact Changes.refl _ _
                | with_reducible refine (State.refuse_changes ..).after (by decide) ?_
                | with_reducible refine (State.isolateTarget_changes ..).after (by decide) ?_
                | with_reducible refine (State.replyAfter_changes ..).after (by decide) ?_ | split

theorem execRestoreIsolation_changes (tag : Byte) (target : Target) (s : State) :
    ∃ t, execRestoreIsolation tag target s = .next t ∧ Changes [.points, .presses, .words, .detectors, .zones, .alarms, .doors, .pairs, .marks, .calls, .signs, .lamps, .holder, .discards, .reports, .replies, .store] s t :=
  request_changes (by decide) ((serveRestoreIsolation_changes ..).mono (by decide))

theorem execPointIsolationExpiry_changes (p : Nat) (s : State) :
    ∃ t, execPointIsolationExpiry p s = .next t ∧ Changes [.points, .presses, .words, .detectors, .alarms, .doors, .pairs, .marks, .calls, .signs, .lamps, .reports, .replies] s t := by
  refine ⟨_, rfl, (State.pump_changes _).after (by decide) ?_⟩
  repeat' first | with_reducible exact Changes.refl _ _
                | with_reducible refine (State.isolatePoint_changes ..).after (by decide) ?_ | split

theorem execZoneIsolationExpiry_changes (z : Nat) (s : State) :
    ∃ t, execZoneIsolationExpiry z s = .next t ∧ Changes [.presses, .words, .detectors, .zones, .alarms, .doors, .pairs, .marks, .calls, .signs, .lamps, .reports, .replies] s t := by
  refine ⟨_, rfl, (State.pump_changes _).after (by decide) ?_⟩
  repeat' first | with_reducible exact Changes.refl _ _
                | with_reducible refine (State.isolateZone_changes ..).after (by decide) ?_ | split

theorem State.loseKind_changes (s : State) (p : Nat) : Changes [.presses, .detectors, .alarms, .marks, .reports]
    s (State.loseKind s p) := by
  unfold State.loseKind
  try dsimp only
  repeat' first | with_reducible exact Changes.refl _ _
                | with_reducible refine (State.clearFaults_changes ..).after (by decide) ?_
                | with_reducible refine (State.dropPresence_changes ..).after (by decide) ?_
                | with_reducible refine (State.losePress_changes ..).after (by decide) ?_
                | with_reducible refine (State.putDetector_changes ..).after (by decide) ?_

theorem State.renewPoint_changes (s : State) (p : Nat) (c : PointCfg) : Changes [.points, .presses, .words, .detectors]
    s (State.renewPoint s p c) := by
  unfold State.renewPoint
  try dsimp only
  repeat' first | with_reducible exact Changes.refl _ _
                | with_reducible refine (State.putPoint_changes ..).after (by decide) ?_
                | with_reducible refine (State.putDetector_changes ..).after (by decide) ?_ | split

theorem State.moveDoor_changes (s : State) (p : Nat) : Changes [.words, .doors, .pairs, .exits, .signs, .reports]
    s (State.moveDoor s p) := by
  unfold State.moveDoor
  try dsimp only
  repeat' first | with_reducible exact Changes.refl _ _
                | with_reducible refine (State.placeDoor_changes ..).after (by decide) ?_
                | with_reducible refine Changes.trans ?_ (State.doorEvent_changes (by decide) (fun t => ?_))
                | split

theorem State.dropIsolation_changes (s : State) (p : Nat) : Changes [.points, .reports]
    s (State.dropIsolation s p) := by
  unfold State.dropIsolation
  try dsimp only
  repeat' first | with_reducible exact Changes.refl _ _ | rfl
                | with_reducible refine (State.putPoint_keeps _ _ ?_ ?_).after (by decide) ?_
                | with_reducible refine (State.report_changes ..).after (by decide) ?_ | split

theorem State.configurePoint_changes (s : State) (p : Nat) (c : PointCfg) : Changes [.points, .presses, .words, .scanners, .detectors, .alarms, .doors, .pairs, .marks, .calls, .exits, .signs, .lamps, .reports]
    s (State.configurePoint s p c) := by
  unfold State.configurePoint
  try dsimp only
  repeat' first | with_reducible exact Changes.refl _ _ | rfl
                | with_reducible refine (State.putPoint_keeps _ _ ?_ ?_).after (by decide) ?_
                | with_reducible refine (State.loseKind_changes ..).after (by decide) ?_
                | with_reducible refine (State.dropIsolation_changes ..).after (by decide) ?_
                | with_reducible refine (State.renewPoint_changes ..).after (by decide) ?_
                | with_reducible refine (State.seeIsolation_changes ..).after (by decide) ?_
                | with_reducible refine (State.moveDoor_changes ..).after (by decide) ?_
                | with_reducible refine (State.reposition_changes ..).after (by decide) ?_
                | with_reducible refine (State.refreshLamps_changes ..).after (by decide) ?_
                | with_reducible refine (State.runDeferred_changes ..).after (by decide) ?_ | split

theorem serveCfgPoint_changes (tag : Byte) (p : Nat) (setting : Option PointSetting) (s : State) : Changes [.points, .presses, .words, .scanners, .detectors, .alarms, .doors, .pairs, .marks, .calls, .exits, .signs, .lamps, .reports, .replies, .store]
    s (serveCfgPoint tag p setting s) := by
  unfold serveCfgPoint
  try dsimp only
  repeat' first | with_reducible exact Changes.refl _ _
                | with_reducible refine (State.refuse_changes ..).after (by decide) ?_
                | with_reducible refine (State.accept_changes ..).after (by decide) ?_
                | with_reducible refine (State.configurePoint_changes ..).after (by decide) ?_
                | with_reducible refine (State.replyAfter_changes ..).after (by decide) ?_ | split

theorem execCfgPoint_changes (tag : Byte) (p : Nat) (setting : Option PointSetting) (s : State) :
    ∃ t, execCfgPoint tag p setting s = .next t ∧ Changes [.points, .presses, .words, .scanners, .detectors, .alarms, .doors, .pairs, .marks, .calls, .exits, .signs, .lamps, .holder, .discards, .reports, .replies, .store] s t :=
  request_changes (by decide) ((serveCfgPoint_changes ..).mono (by decide))

theorem serveGetPoint_changes (tag : Byte) (p : Nat) (s : State) : Changes [.replies]
    s (serveGetPoint tag p s) := by
  unfold serveGetPoint
  try dsimp only
  repeat' first | with_reducible exact Changes.refl _ _
                | with_reducible refine (State.refuse_changes ..).after (by decide) ?_
                | with_reducible refine (State.reply_changes ..).after (by decide) ?_ | split

theorem execGetPoint_changes (tag : Byte) (p : Nat) (s : State) :
    ∃ t, execGetPoint tag p s = .next t ∧ Changes [.holder, .discards, .reports, .replies] s t :=
  request_changes (by decide) ((serveGetPoint_changes ..).mono (by decide))

end Sys2Proof.Machine
end

