-- ==== Sys2Proof/Laws/Settings.lean ====
section
/-! SUPPORT. Which parts of the state each operation of Machine/Settings.lean touches, and that it keeps the bounds. -/

namespace Sys2Proof.Machine

theorem serveSaveSettings_changes (tag : Byte) (s : State) : Changes [.replies, .store]
    s (serveSaveSettings tag s) := by
  unfold serveSaveSettings
  dsimp only
  split
  · exact (State.refuse_changes ..).mono (by decide)
  · exact (State.accept_changes ..).after (by decide) ((Changes.store_saving s _).mono (by decide))

theorem execSaveSettings_changes (tag : Byte) (s : State) :
    ∃ t, execSaveSettings tag s = .next t ∧ Changes [.holder, .discards, .reports, .replies, .store] s t :=
  request_changes (by decide) ((serveSaveSettings_changes ..).mono (by decide))

theorem State.endSave_changes (s : State) (copy : Image) (good : Bool) : Changes [.alarms, .reports, .store]
    s (s.endSave copy good) := by
  have h : ∀ st, Changes [.alarms, .reports, .store] s (State.report { s with store := st } (.saveDone good)) :=
    fun st => (State.report_changes ..).after (by decide) ((Changes.store s st).mono (by decide))
  cases good
  · exact (State.raise_changes ..).after (by decide) (h _)
  · exact (State.endAlarm_changes ..).after (by decide) (h _)

theorem execSaveDone_changes (good : Bool) (s : State) :
    ∃ t, execSaveDone good s = .next t ∧ Changes [.alarms, .reports, .replies, .store] s t := by
  refine ⟨_, rfl, (State.pump_changes _).after (by decide) ?_⟩
  repeat' first | with_reducible exact Changes.refl _ _
                | with_reducible refine (State.endSave_changes ..).after (by decide) ?_ | split

theorem State.startDetectors_changes (s : State) : Changes [.detectors]
    s (State.startDetectors s) := by
  unfold State.startDetectors
  try dsimp only
  repeat' first | with_reducible exact Changes.refl _ _
                | with_reducible refine (Changes.detection_detectors _ _).after (by decide) ?_

theorem State.startDoors_changes (s : State) : Changes [.words, .doors]
    s (State.startDoors s) := by
  unfold State.startDoors
  try dsimp only
  repeat' first | with_reducible exact Changes.refl _ _
                | with_reducible refine (State.putDoor_changes ..).after (by decide) ?_
                | with_reducible refine (State.writeHolder_changes ..).after (by decide) ?_
                | with_reducible refine Changes.trans ?_ (State.each_changes (fun n t => ?_))

theorem State.startSigns_changes (s : State) : Changes [.words, .exits, .signs]
    s (State.startSigns s) := by
  unfold State.startSigns
  try dsimp only
  repeat' first | with_reducible exact Changes.refl _ _
                | with_reducible refine (State.recomputeUsable_changes ..).after (by decide) ?_
                | with_reducible refine (State.putSign_changes ..).after (by decide) ?_
                | with_reducible refine (State.writeSign_changes ..).after (by decide) ?_
                | with_reducible refine Changes.trans ?_ (State.each_changes (fun n t => ?_)) | split

theorem State.startScanners_changes (s : State) : Changes [.scanners] s s.startScanners :=
  .plain (fun q hq => by
    cases q <;> first | exact absurd (by decide) hq | simp [Part.same, State.startScanners, State.point]) rfl rfl rfl

theorem State.announceStart_changes (s : State) (restarted : Bool) : Changes [.alarms, .reports]
    s (State.announceStart s restarted) := by
  unfold State.announceStart
  try dsimp only
  repeat' first | with_reducible exact Changes.refl _ _
                | with_reducible refine (State.report_changes ..).after (by decide) ?_
                | with_reducible refine (State.raise_changes ..).after (by decide) ?_ | split

/-- A start keeps the queue of commands, and the state it makes is within every bound. -/
theorem startBase_changes (s : State) : Changes [.clock, .points, .presses, .words, .scanners, .detectors, .profiles, .zones, .lines, .silenced, .alarms, .regimes, .doors, .latch, .scanCounts, .pairs, .grants, .quiet, .marks, .calls, .exits, .signs, .sequences, .lamps, .lampGroups, .receiver, .holder, .discards, .startDue, .reports, .replies, .store]
    s (startBase s.store.found s.pending) := by
  refine ⟨fun q hq => ?_, fun _ => ?_, fun _ => ?_, fun _ => ?_⟩
  · cases q <;> first | exact absurd (by decide) hq | rfl
  · exact ⟨Nat.zero_le _, Nat.zero_le _, List.nodup_nil, fun e he => by cases he⟩
  · exact ⟨Nat.zero_le _, Nat.zero_le _, Nat.zero_le _⟩
  · exact Nat.zero_le _

theorem State.start_changes (s : State) : Changes [.clock, .points, .presses, .words, .scanners, .detectors, .profiles, .zones, .lines, .silenced, .alarms, .regimes, .doors, .latch, .scanCounts, .pairs, .grants, .quiet, .marks, .calls, .exits, .signs, .sequences, .lamps, .lampGroups, .receiver, .holder, .discards, .startDue, .reports, .replies, .store]
    s s.start := by
  unfold State.start
  refine (State.announceStart_changes ..).after (by decide) ?_
  refine (State.startScanners_changes ..).after (by decide) ?_
  refine (State.refreshLamps_changes ..).after (by decide) ?_
  refine (State.startSigns_changes ..).after (by decide) ?_
  refine (State.startDoors_changes ..).after (by decide) ?_
  exact (State.startDetectors_changes ..).after (by decide) (startBase_changes s)

theorem execStart_changes (s : State) : ∃ t, execStart s = .next t ∧ Changes [.clock, .points, .presses, .words, .scanners, .detectors, .profiles, .zones, .lines, .silenced, .alarms, .regimes, .doors, .latch, .scanCounts, .pairs, .grants, .quiet, .marks, .calls, .exits, .signs, .sequences, .lamps, .lampGroups, .receiver, .holder, .discards, .startDue, .reports, .replies, .store]
    s t := done_changes (by decide) s.start_changes

theorem serveRestart_changes (tag : Byte) (s : State) : Changes [.replies]
    s (serveRestart tag s) := by
  unfold serveRestart
  try dsimp only
  repeat' first | with_reducible exact Changes.refl _ _
                | with_reducible refine (State.refuse_changes ..).after (by decide) ?_
                | with_reducible refine (State.accept_changes ..).after (by decide) ?_ | split

theorem execRestart_changes (tag : Byte) (s : State) :
    ∃ t, execRestart tag s = .next t ∧ Changes [.holder, .discards, .reports, .replies] s t :=
  request_changes (by decide) ((serveRestart_changes ..).mono (by decide))

theorem serveGetSummary_changes (tag : Byte) (s : State) : Changes [.replies]
    s (serveGetSummary tag s) := by
  unfold serveGetSummary
  try dsimp only
  repeat' first | with_reducible exact Changes.refl _ _
                | with_reducible refine (State.reply_changes ..).after (by decide) ?_

theorem execGetSummary_changes (tag : Byte) (s : State) :
    ∃ t, execGetSummary tag s = .next t ∧ Changes [.holder, .discards, .reports, .replies] s t :=
  request_changes (by decide) ((serveGetSummary_changes ..).mono (by decide))

end Sys2Proof.Machine
end

