-- ==== Sys2Proof/Laws/Link.lean ====
section
/-! SUPPORT. Which parts of the state each operation of Machine/Link.lean touches, and that it keeps the bounds. -/

namespace Sys2Proof.Machine

theorem serveRequest_changes (i : Instr) (s : State) : Changes [.points, .presses, .words, .scanners, .detectors, .profiles, .zones, .silenced, .alarms, .regimes, .doors, .latch, .pairs, .grants, .quiet, .marks, .calls, .exits, .signs, .sequences, .lamps, .lampGroups, .reports, .replies, .store]
    s (serveRequest i s) := by
  cases i
  case getSummary => exact (serveGetSummary_changes ..).mono (by decide)
  case getPoint => exact (serveGetPoint_changes ..).mono (by decide)
  case getZone => exact (serveGetZone_changes ..).mono (by decide)
  case getGroup => exact (serveGetGroup_changes ..).mono (by decide)
  case getDoor => exact (serveGetDoor_changes ..).mono (by decide)
  case getPair => exact (serveGetPair_changes ..).mono (by decide)
  case getCalls => exact (serveGetCalls_changes ..).mono (by decide)
  case getSign => exact (serveGetSign_changes ..).mono (by decide)
  case getExit => exact (serveGetExit_changes ..).mono (by decide)
  case getLampGroup => exact (serveGetLampGroup_changes ..).mono (by decide)
  case getAlarms => exact (serveGetAlarms_changes ..).mono (by decide)
  case cfgPoint => exact (serveCfgPoint_changes ..).mono (by decide)
  case cfgZone => exact (serveCfgZone_changes ..).mono (by decide)
  case cfgProfile => exact (serveCfgProfile_changes ..).mono (by decide)
  case cfgGroup => exact (serveCfgGroup_changes ..).mono (by decide)
  case cfgDoor => exact (serveCfgDoor_changes ..).mono (by decide)
  case cfgPair => exact (serveCfgPair_changes ..).mono (by decide)
  case cfgExit => exact (serveCfgExit_changes ..).mono (by decide)
  case cfgSign => exact (serveCfgSign_changes ..).mono (by decide)
  case cfgSequence => exact (serveCfgSequence_changes ..).mono (by decide)
  case cfgLamp => exact (serveCfgLamp_changes ..).mono (by decide)
  case cfgLampGroup => exact (serveCfgLampGroup_changes ..).mono (by decide)
  case saveSettings => exact (serveSaveSettings_changes ..).mono (by decide)
  case isolate => exact (serveIsolate_changes ..).mono (by decide)
  case restoreIsolation => exact (serveRestoreIsolation_changes ..).mono (by decide)
  case acceptFire => exact (serveAcceptFire_changes ..).mono (by decide)
  case confirmFire => exact (serveConfirmFire_changes ..).mono (by decide)
  case silence => exact (serveSilence_changes ..).mono (by decide)
  case resound => exact (serveResound_changes ..).mono (by decide)
  case fireReset => exact (serveFireReset_changes ..).mono (by decide)
  case stageSegment => exact (serveStageSegment_changes ..).mono (by decide)
  case setMode => exact (serveSetMode_changes ..).mono (by decide)
  case releaseDoor => exact (serveReleaseDoor_changes ..).mono (by decide)
  case holdDoor => exact (serveHoldDoor_changes ..).mono (by decide)
  case lockDoor => exact (serveLockDoor_changes ..).mono (by decide)
  case doorRestore => exact (serveDoorRestore_changes ..).mono (by decide)
  case grantPassage => exact (serveGrantPassage_changes ..).mono (by decide)
  case endPassage => exact (serveEndPassage_changes ..).mono (by decide)
  case answerCall => exact (serveAnswerCall_changes ..).mono (by decide)
  case holdCall => exact (serveHoldCall_changes ..).mono (by decide)
  case endCall => exact (serveEndCall_changes ..).mono (by decide)
  case blockExit => exact (serveBlockExit_changes ..).mono (by decide)
  case unblockExit => exact (serveUnblockExit_changes ..).mono (by decide)
  case startTest => exact (serveStartTest_changes ..).mono (by decide)
  case suspendTest => exact (serveSuspendTest_changes ..).mono (by decide)
  case resumeTest => exact (serveResumeTest_changes ..).mono (by decide)
  case stopTest => exact (serveStopTest_changes ..).mono (by decide)
  case acceptAlarm => exact (serveAcceptAlarm_changes ..).mono (by decide)
  case restart => exact (serveRestart_changes ..).mono (by decide)
  all_goals exact Changes.refl _ _

theorem State.serveFrame_changes (s : State) (kind tag : Byte) (body : List Byte) : Changes [.points, .presses, .words, .scanners, .detectors, .profiles, .zones, .silenced, .alarms, .regimes, .doors, .latch, .pairs, .grants, .quiet, .marks, .calls, .exits, .signs, .sequences, .lamps, .lampGroups, .reports, .replies, .store]
    s (State.serveFrame s kind tag body) := by
  unfold State.serveFrame
  try dsimp only
  repeat' first | with_reducible exact Changes.refl _ _
                | with_reducible refine (serveRequest_changes ..).after (by decide) ?_
                | with_reducible refine (State.answer_changes ..).after (by decide) ?_ | split

theorem Changes.holder (s : State) (hs : List Held) (h : hs.length ≤ s.link.holder.length) :
    Changes [.holder] s { s with link.holder := hs } :=
  ⟨fun q hq => by cases q <;> first | exact absurd (by decide) hq | simp [Part.same, State.point], id,
    fun ⟨h₁, h₂, h₃⟩ => ⟨h.trans h₁, h₂, h₃⟩, id⟩

theorem State.takeHeld_changes (s : State) : Changes [.points, .presses, .words, .scanners, .detectors, .profiles, .zones, .silenced, .alarms, .regimes, .doors, .latch, .pairs, .grants, .quiet, .marks, .calls, .exits, .signs, .sequences, .lamps, .lampGroups, .holder, .reports, .replies, .store]
    s s.takeHeld := by
  unfold State.takeHeld
  split
  · exact .refl _ _
  · split
    · exact .refl _ _
    · next hh =>
      dsimp only
      have hc := Changes.holder s _ (Nat.le_of_lt (by rw [hh]; exact Nat.lt_succ_self _))
      split
      · exact (State.serveFrame_changes ..).after (by decide) (hc.mono (by decide))
      · exact (serveRequest_changes ..).after (by decide) (hc.mono (by decide))

theorem Changes.receiver (s : State) (bytes : List Byte) : Changes [.receiver] s { s with link.rx := bytes } :=
  ⟨fun q hq => by cases q <;> first | exact absurd (by decide) hq | simp [Part.same, State.point], id, fun h => h, id⟩

theorem State.examine_changes (gap : Bool) (fuel : Nat) (bytes : List Byte) (s : State) : Changes [.points, .presses, .words, .scanners, .detectors, .profiles, .zones, .silenced, .alarms, .regimes, .doors, .latch, .pairs, .grants, .quiet, .marks, .calls, .exits, .signs, .sequences, .lamps, .lampGroups, .receiver, .holder, .discards, .reports, .replies, .store]
    s (State.examine gap fuel bytes s) := by
  induction fuel generalizing bytes s with
  | zero => exact (Changes.receiver ..).mono (by decide)
  | succ fuel ih =>
    unfold State.examine
    split
    · exact (Changes.receiver ..).mono (by decide)
    · split
      · split
        · exact (s.discard_changes.mono (by decide)).trans (ih ..)
        · exact (Changes.receiver ..).mono (by decide)
      · exact (s.discard_changes.mono (by decide)).trans (ih ..)
      · exact ((State.takeHeld_changes _).after (by decide) ((s.hold_changes _).mono (by decide))).trans (ih ..)

theorem execReceiveByte_changes (b : Byte) (s : State) :
    ∃ t, execReceiveByte b s = .next t ∧ Changes [.points, .presses, .words, .scanners, .detectors, .profiles, .zones, .silenced, .alarms, .regimes, .doors, .latch, .pairs, .grants, .quiet, .marks, .calls, .exits, .signs, .sequences, .lamps, .lampGroups, .receiver, .holder, .discards, .reports, .replies, .store] s t := by
  refine ⟨_, rfl, (State.pump_changes _).after (by decide) ?_⟩
  repeat' first | with_reducible exact Changes.refl _ _
                | with_reducible refine (State.examine_changes ..).after (by decide) ?_

theorem execFrameGapTimeout_changes (s : State) :
    ∃ t, execFrameGapTimeout s = .next t ∧ Changes [.points, .presses, .words, .scanners, .detectors, .profiles, .zones, .silenced, .alarms, .regimes, .doors, .latch, .pairs, .grants, .quiet, .marks, .calls, .exits, .signs, .sequences, .lamps, .lampGroups, .receiver, .holder, .discards, .reports, .replies, .store] s t := by
  refine ⟨_, rfl, (State.pump_changes _).after (by decide) ?_⟩
  repeat' first | with_reducible exact Changes.refl _ _
                | with_reducible refine (State.examine_changes ..).after (by decide) ?_

theorem execUnknownKind_changes (kind tag : Byte) (s : State) :
    ∃ t, execUnknownKind kind tag s = .next t ∧ Changes [.points, .presses, .words, .scanners, .detectors, .profiles, .zones, .silenced, .alarms, .regimes, .doors, .latch, .pairs, .grants, .quiet, .marks, .calls, .exits, .signs, .sequences, .lamps, .lampGroups, .holder, .discards, .reports, .replies, .store] s t := by
  refine ⟨_, rfl, (State.pump_changes _).after (by decide) ?_⟩
  repeat' first | with_reducible exact Changes.refl _ _
                | with_reducible refine (State.hold_changes ..).after (by decide) ?_
                | with_reducible refine (State.takeHeld_changes ..).after (by decide) ?_ | split

theorem State.endSending_changes (s : State) (f : OutFrame) : Changes [.points, .presses, .words, .scanners, .detectors, .profiles, .zones, .silenced, .alarms, .regimes, .doors, .latch, .pairs, .grants, .quiet, .marks, .calls, .exits, .signs, .sequences, .lamps, .lampGroups, .holder, .startDue, .reports, .replies, .store]
    s (s.endSending f) := by
  have h : Changes [.replies] s { s with link.sending := none } :=
    ⟨fun q hq => by cases q <;> first | exact absurd (by decide) hq | simp [Part.same, State.point], id, fun h => h, id⟩
  unfold State.endSending
  dsimp only
  split
  · refine Changes.trans (h.mono (by decide)) ⟨fun q hq => ?_, id, fun h => h, id⟩
    cases q <;> first | exact absurd (by decide) hq | simp [Part.same]
  · split
    · exact (State.takeHeld_changes _).after (by decide) (h.mono (by decide))
    · exact h.mono (by decide)

theorem execTransmitFrameEnd_changes (s : State) :
    ∃ t, execTransmitFrameEnd s = .next t ∧ Changes [.points, .presses, .words, .scanners, .detectors, .profiles, .zones, .silenced, .alarms, .regimes, .doors, .latch, .pairs, .grants, .quiet, .marks, .calls, .exits, .signs, .sequences, .lamps, .lampGroups, .holder, .startDue, .reports, .replies, .store] s t := by
  refine ⟨_, rfl, (State.pump_changes _).after (by decide) ?_⟩
  repeat' first | with_reducible exact Changes.refl _ _
                | with_reducible refine (State.endSending_changes ..).after (by decide) ?_ | split

theorem State.endAreaWrite_changes (s : State) (a : Area) : Changes [.replies, .store] s (s.endAreaWrite a) :=
  ⟨fun q hq => by cases q <;> first | exact absurd (by decide) hq | simp [Part.same, State.endAreaWrite, State.point], id,
    fun h => h, id⟩

theorem execStandingAreaWriteDone_changes (s : State) :
    ∃ t, execStandingAreaWriteDone s = .next t ∧ Changes [.reports, .replies, .store] s t := by
  refine ⟨_, rfl, (State.pump_changes _).after (by decide) ?_⟩
  repeat' first | with_reducible exact Changes.refl _ _
                | with_reducible refine (State.endAreaWrite_changes ..).after (by decide) ?_ | split

end Sys2Proof.Machine
end

