-- ==== Sys2Proof/Laws/State.lean ====
section
/-! SUPPORT. What each update of the state leaves in each field, and what reading a record gives after a record is written. -/

namespace Sys2Proof.Machine

@[simp] theorem State.putPoint_clock (s : State) (p : Nat) (x : Point) : (s.putPoint p x).clock = s.clock := rfl
@[simp] theorem State.putPoint_detection (s : State) (p : Nat) (x : Point) : (s.putPoint p x).detection = s.detection := rfl
@[simp] theorem State.putPoint_fire (s : State) (p : Nat) (x : Point) : (s.putPoint p x).fire = s.fire := rfl
@[simp] theorem State.putPoint_alarms (s : State) (p : Nat) (x : Point) : (s.putPoint p x).alarms = s.alarms := rfl
@[simp] theorem State.putPoint_regimes (s : State) (p : Nat) (x : Point) : (s.putPoint p x).regimes = s.regimes := rfl
@[simp] theorem State.putPoint_doors (s : State) (p : Nat) (x : Point) : (s.putPoint p x).doors = s.doors := rfl
@[simp] theorem State.putPoint_guard (s : State) (p : Nat) (x : Point) : (s.putPoint p x).guard = s.guard := rfl
@[simp] theorem State.putPoint_calls (s : State) (p : Nat) (x : Point) : (s.putPoint p x).calls = s.calls := rfl
@[simp] theorem State.putPoint_routes (s : State) (p : Nat) (x : Point) : (s.putPoint p x).routes = s.routes := rfl
@[simp] theorem State.putPoint_lamps (s : State) (p : Nat) (x : Point) : (s.putPoint p x).lamps = s.lamps := rfl
@[simp] theorem State.putPoint_link (s : State) (p : Nat) (x : Point) : (s.putPoint p x).link = s.link := rfl
@[simp] theorem State.putPoint_store (s : State) (p : Nat) (x : Point) : (s.putPoint p x).store = s.store := rfl
@[simp] theorem State.putPoint_pending (s : State) (p : Nat) (x : Point) : (s.putPoint p x).pending = s.pending := rfl
@[simp] theorem State.putPoint_loops_scanA (s : State) (p : Nat) (x : Point) :
    (s.putPoint p x).loops.scanA = s.loops.scanA := rfl
@[simp] theorem State.putPoint_loops_scanB (s : State) (p : Nat) (x : Point) :
    (s.putPoint p x).loops.scanB = s.loops.scanB := rfl

@[simp] theorem State.setWord_clock (s : State) (p : Nat) (w : OutWord) : (s.setWord p w).clock = s.clock := rfl
@[simp] theorem State.setWord_detection (s : State) (p : Nat) (w : OutWord) : (s.setWord p w).detection = s.detection := rfl
@[simp] theorem State.setWord_fire (s : State) (p : Nat) (w : OutWord) : (s.setWord p w).fire = s.fire := rfl
@[simp] theorem State.setWord_alarms (s : State) (p : Nat) (w : OutWord) : (s.setWord p w).alarms = s.alarms := rfl
@[simp] theorem State.setWord_regimes (s : State) (p : Nat) (w : OutWord) : (s.setWord p w).regimes = s.regimes := rfl
@[simp] theorem State.setWord_doors (s : State) (p : Nat) (w : OutWord) : (s.setWord p w).doors = s.doors := rfl
@[simp] theorem State.setWord_guard (s : State) (p : Nat) (w : OutWord) : (s.setWord p w).guard = s.guard := rfl
@[simp] theorem State.setWord_calls (s : State) (p : Nat) (w : OutWord) : (s.setWord p w).calls = s.calls := rfl
@[simp] theorem State.setWord_routes (s : State) (p : Nat) (w : OutWord) : (s.setWord p w).routes = s.routes := rfl
@[simp] theorem State.setWord_lamps (s : State) (p : Nat) (w : OutWord) : (s.setWord p w).lamps = s.lamps := rfl
@[simp] theorem State.setWord_link (s : State) (p : Nat) (w : OutWord) : (s.setWord p w).link = s.link := rfl
@[simp] theorem State.setWord_store (s : State) (p : Nat) (w : OutWord) : (s.setWord p w).store = s.store := rfl
@[simp] theorem State.setWord_pending (s : State) (p : Nat) (w : OutWord) : (s.setWord p w).pending = s.pending := rfl
@[simp] theorem State.setWord_loops_scanA (s : State) (p : Nat) (w : OutWord) :
    (s.setWord p w).loops.scanA = s.loops.scanA := rfl
@[simp] theorem State.setWord_loops_scanB (s : State) (p : Nat) (w : OutWord) :
    (s.setWord p w).loops.scanB = s.loops.scanB := rfl

@[simp] theorem State.putDetector_clock (s : State) (p : Nat) (x : Option Detector) : (s.putDetector p x).clock = s.clock := rfl
@[simp] theorem State.putDetector_loops (s : State) (p : Nat) (x : Option Detector) : (s.putDetector p x).loops = s.loops := rfl
@[simp] theorem State.putDetector_fire (s : State) (p : Nat) (x : Option Detector) : (s.putDetector p x).fire = s.fire := rfl
@[simp] theorem State.putDetector_alarms (s : State) (p : Nat) (x : Option Detector) : (s.putDetector p x).alarms = s.alarms := rfl
@[simp] theorem State.putDetector_regimes (s : State) (p : Nat) (x : Option Detector) : (s.putDetector p x).regimes = s.regimes := rfl
@[simp] theorem State.putDetector_doors (s : State) (p : Nat) (x : Option Detector) : (s.putDetector p x).doors = s.doors := rfl
@[simp] theorem State.putDetector_guard (s : State) (p : Nat) (x : Option Detector) : (s.putDetector p x).guard = s.guard := rfl
@[simp] theorem State.putDetector_calls (s : State) (p : Nat) (x : Option Detector) : (s.putDetector p x).calls = s.calls := rfl
@[simp] theorem State.putDetector_routes (s : State) (p : Nat) (x : Option Detector) : (s.putDetector p x).routes = s.routes := rfl
@[simp] theorem State.putDetector_lamps (s : State) (p : Nat) (x : Option Detector) : (s.putDetector p x).lamps = s.lamps := rfl
@[simp] theorem State.putDetector_link (s : State) (p : Nat) (x : Option Detector) : (s.putDetector p x).link = s.link := rfl
@[simp] theorem State.putDetector_store (s : State) (p : Nat) (x : Option Detector) : (s.putDetector p x).store = s.store := rfl
@[simp] theorem State.putDetector_pending (s : State) (p : Nat) (x : Option Detector) : (s.putDetector p x).pending = s.pending := rfl
@[simp] theorem State.putDetector_detection_profiles (s : State) (p : Nat) (x : Option Detector) :
    (s.putDetector p x).detection.profiles = s.detection.profiles := rfl

@[simp] theorem State.putProfile_clock (s : State) (n : Nat) (x : Profile) : (s.putProfile n x).clock = s.clock := rfl
@[simp] theorem State.putProfile_loops (s : State) (n : Nat) (x : Profile) : (s.putProfile n x).loops = s.loops := rfl
@[simp] theorem State.putProfile_fire (s : State) (n : Nat) (x : Profile) : (s.putProfile n x).fire = s.fire := rfl
@[simp] theorem State.putProfile_alarms (s : State) (n : Nat) (x : Profile) : (s.putProfile n x).alarms = s.alarms := rfl
@[simp] theorem State.putProfile_regimes (s : State) (n : Nat) (x : Profile) : (s.putProfile n x).regimes = s.regimes := rfl
@[simp] theorem State.putProfile_doors (s : State) (n : Nat) (x : Profile) : (s.putProfile n x).doors = s.doors := rfl
@[simp] theorem State.putProfile_guard (s : State) (n : Nat) (x : Profile) : (s.putProfile n x).guard = s.guard := rfl
@[simp] theorem State.putProfile_calls (s : State) (n : Nat) (x : Profile) : (s.putProfile n x).calls = s.calls := rfl
@[simp] theorem State.putProfile_routes (s : State) (n : Nat) (x : Profile) : (s.putProfile n x).routes = s.routes := rfl
@[simp] theorem State.putProfile_lamps (s : State) (n : Nat) (x : Profile) : (s.putProfile n x).lamps = s.lamps := rfl
@[simp] theorem State.putProfile_link (s : State) (n : Nat) (x : Profile) : (s.putProfile n x).link = s.link := rfl
@[simp] theorem State.putProfile_store (s : State) (n : Nat) (x : Profile) : (s.putProfile n x).store = s.store := rfl
@[simp] theorem State.putProfile_pending (s : State) (n : Nat) (x : Profile) : (s.putProfile n x).pending = s.pending := rfl
@[simp] theorem State.putProfile_detection_detectors (s : State) (n : Nat) (x : Profile) :
    (s.putProfile n x).detection.detectors = s.detection.detectors := rfl

@[simp] theorem State.putZone_clock (s : State) (z : Nat) (x : Zone) : (s.putZone z x).clock = s.clock := rfl
@[simp] theorem State.putZone_loops (s : State) (z : Nat) (x : Zone) : (s.putZone z x).loops = s.loops := rfl
@[simp] theorem State.putZone_detection (s : State) (z : Nat) (x : Zone) : (s.putZone z x).detection = s.detection := rfl
@[simp] theorem State.putZone_alarms (s : State) (z : Nat) (x : Zone) : (s.putZone z x).alarms = s.alarms := rfl
@[simp] theorem State.putZone_regimes (s : State) (z : Nat) (x : Zone) : (s.putZone z x).regimes = s.regimes := rfl
@[simp] theorem State.putZone_doors (s : State) (z : Nat) (x : Zone) : (s.putZone z x).doors = s.doors := rfl
@[simp] theorem State.putZone_guard (s : State) (z : Nat) (x : Zone) : (s.putZone z x).guard = s.guard := rfl
@[simp] theorem State.putZone_calls (s : State) (z : Nat) (x : Zone) : (s.putZone z x).calls = s.calls := rfl
@[simp] theorem State.putZone_routes (s : State) (z : Nat) (x : Zone) : (s.putZone z x).routes = s.routes := rfl
@[simp] theorem State.putZone_lamps (s : State) (z : Nat) (x : Zone) : (s.putZone z x).lamps = s.lamps := rfl
@[simp] theorem State.putZone_link (s : State) (z : Nat) (x : Zone) : (s.putZone z x).link = s.link := rfl
@[simp] theorem State.putZone_store (s : State) (z : Nat) (x : Zone) : (s.putZone z x).store = s.store := rfl
@[simp] theorem State.putZone_pending (s : State) (z : Nat) (x : Zone) : (s.putZone z x).pending = s.pending := rfl
@[simp] theorem State.putZone_fire_evacIn (s : State) (z : Nat) (x : Zone) :
    (s.putZone z x).fire.evacIn = s.fire.evacIn := rfl
@[simp] theorem State.putZone_fire_mainsOk (s : State) (z : Nat) (x : Zone) :
    (s.putZone z x).fire.mainsOk = s.fire.mainsOk := rfl
@[simp] theorem State.putZone_fire_silenced (s : State) (z : Nat) (x : Zone) :
    (s.putZone z x).fire.silenced = s.fire.silenced := rfl

@[simp] theorem State.putGroup_clock (s : State) (g : Nat) (x : Group) : (s.putGroup g x).clock = s.clock := rfl
@[simp] theorem State.putGroup_loops (s : State) (g : Nat) (x : Group) : (s.putGroup g x).loops = s.loops := rfl
@[simp] theorem State.putGroup_detection (s : State) (g : Nat) (x : Group) : (s.putGroup g x).detection = s.detection := rfl
@[simp] theorem State.putGroup_fire (s : State) (g : Nat) (x : Group) : (s.putGroup g x).fire = s.fire := rfl
@[simp] theorem State.putGroup_alarms (s : State) (g : Nat) (x : Group) : (s.putGroup g x).alarms = s.alarms := rfl
@[simp] theorem State.putGroup_doors (s : State) (g : Nat) (x : Group) : (s.putGroup g x).doors = s.doors := rfl
@[simp] theorem State.putGroup_guard (s : State) (g : Nat) (x : Group) : (s.putGroup g x).guard = s.guard := rfl
@[simp] theorem State.putGroup_calls (s : State) (g : Nat) (x : Group) : (s.putGroup g x).calls = s.calls := rfl
@[simp] theorem State.putGroup_routes (s : State) (g : Nat) (x : Group) : (s.putGroup g x).routes = s.routes := rfl
@[simp] theorem State.putGroup_lamps (s : State) (g : Nat) (x : Group) : (s.putGroup g x).lamps = s.lamps := rfl
@[simp] theorem State.putGroup_link (s : State) (g : Nat) (x : Group) : (s.putGroup g x).link = s.link := rfl
@[simp] theorem State.putGroup_store (s : State) (g : Nat) (x : Group) : (s.putGroup g x).store = s.store := rfl
@[simp] theorem State.putGroup_pending (s : State) (g : Nat) (x : Group) : (s.putGroup g x).pending = s.pending := rfl

@[simp] theorem State.putDoor_clock (s : State) (d : Nat) (x : Door) : (s.putDoor d x).clock = s.clock := rfl
@[simp] theorem State.putDoor_loops (s : State) (d : Nat) (x : Door) : (s.putDoor d x).loops = s.loops := rfl
@[simp] theorem State.putDoor_detection (s : State) (d : Nat) (x : Door) : (s.putDoor d x).detection = s.detection := rfl
@[simp] theorem State.putDoor_fire (s : State) (d : Nat) (x : Door) : (s.putDoor d x).fire = s.fire := rfl
@[simp] theorem State.putDoor_alarms (s : State) (d : Nat) (x : Door) : (s.putDoor d x).alarms = s.alarms := rfl
@[simp] theorem State.putDoor_regimes (s : State) (d : Nat) (x : Door) : (s.putDoor d x).regimes = s.regimes := rfl
@[simp] theorem State.putDoor_guard (s : State) (d : Nat) (x : Door) : (s.putDoor d x).guard = s.guard := rfl
@[simp] theorem State.putDoor_calls (s : State) (d : Nat) (x : Door) : (s.putDoor d x).calls = s.calls := rfl
@[simp] theorem State.putDoor_routes (s : State) (d : Nat) (x : Door) : (s.putDoor d x).routes = s.routes := rfl
@[simp] theorem State.putDoor_lamps (s : State) (d : Nat) (x : Door) : (s.putDoor d x).lamps = s.lamps := rfl
@[simp] theorem State.putDoor_link (s : State) (d : Nat) (x : Door) : (s.putDoor d x).link = s.link := rfl
@[simp] theorem State.putDoor_store (s : State) (d : Nat) (x : Door) : (s.putDoor d x).store = s.store := rfl
@[simp] theorem State.putDoor_pending (s : State) (d : Nat) (x : Door) : (s.putDoor d x).pending = s.pending := rfl
@[simp] theorem State.putDoor_doors_latchEvac (s : State) (d : Nat) (x : Door) :
    (s.putDoor d x).doors.latchEvac = s.doors.latchEvac := rfl
@[simp] theorem State.putDoor_doors_latchStartUp (s : State) (d : Nat) (x : Door) :
    (s.putDoor d x).doors.latchStartUp = s.doors.latchStartUp := rfl
@[simp] theorem State.putDoor_doors_scansA (s : State) (d : Nat) (x : Door) :
    (s.putDoor d x).doors.scansA = s.doors.scansA := rfl
@[simp] theorem State.putDoor_doors_scansB (s : State) (d : Nat) (x : Door) :
    (s.putDoor d x).doors.scansB = s.doors.scansB := rfl
@[simp] theorem State.putDoor_doors_pairs (s : State) (d : Nat) (x : Door) :
    (s.putDoor d x).doors.pairs = s.doors.pairs := rfl

@[simp] theorem State.putPair_clock (s : State) (q : Nat) (x : Pair) : (s.putPair q x).clock = s.clock := rfl
@[simp] theorem State.putPair_loops (s : State) (q : Nat) (x : Pair) : (s.putPair q x).loops = s.loops := rfl
@[simp] theorem State.putPair_detection (s : State) (q : Nat) (x : Pair) : (s.putPair q x).detection = s.detection := rfl
@[simp] theorem State.putPair_fire (s : State) (q : Nat) (x : Pair) : (s.putPair q x).fire = s.fire := rfl
@[simp] theorem State.putPair_alarms (s : State) (q : Nat) (x : Pair) : (s.putPair q x).alarms = s.alarms := rfl
@[simp] theorem State.putPair_regimes (s : State) (q : Nat) (x : Pair) : (s.putPair q x).regimes = s.regimes := rfl
@[simp] theorem State.putPair_guard (s : State) (q : Nat) (x : Pair) : (s.putPair q x).guard = s.guard := rfl
@[simp] theorem State.putPair_calls (s : State) (q : Nat) (x : Pair) : (s.putPair q x).calls = s.calls := rfl
@[simp] theorem State.putPair_routes (s : State) (q : Nat) (x : Pair) : (s.putPair q x).routes = s.routes := rfl
@[simp] theorem State.putPair_lamps (s : State) (q : Nat) (x : Pair) : (s.putPair q x).lamps = s.lamps := rfl
@[simp] theorem State.putPair_link (s : State) (q : Nat) (x : Pair) : (s.putPair q x).link = s.link := rfl
@[simp] theorem State.putPair_store (s : State) (q : Nat) (x : Pair) : (s.putPair q x).store = s.store := rfl
@[simp] theorem State.putPair_pending (s : State) (q : Nat) (x : Pair) : (s.putPair q x).pending = s.pending := rfl
@[simp] theorem State.putPair_doors_doors (s : State) (q : Nat) (x : Pair) :
    (s.putPair q x).doors.doors = s.doors.doors := rfl
@[simp] theorem State.putPair_doors_latchEvac (s : State) (q : Nat) (x : Pair) :
    (s.putPair q x).doors.latchEvac = s.doors.latchEvac := rfl
@[simp] theorem State.putPair_doors_latchStartUp (s : State) (q : Nat) (x : Pair) :
    (s.putPair q x).doors.latchStartUp = s.doors.latchStartUp := rfl
@[simp] theorem State.putPair_doors_scansA (s : State) (q : Nat) (x : Pair) :
    (s.putPair q x).doors.scansA = s.doors.scansA := rfl
@[simp] theorem State.putPair_doors_scansB (s : State) (q : Nat) (x : Pair) :
    (s.putPair q x).doors.scansB = s.doors.scansB := rfl

@[simp] theorem State.putExit_clock (s : State) (e : Nat) (x : Exit) : (s.putExit e x).clock = s.clock := rfl
@[simp] theorem State.putExit_loops (s : State) (e : Nat) (x : Exit) : (s.putExit e x).loops = s.loops := rfl
@[simp] theorem State.putExit_detection (s : State) (e : Nat) (x : Exit) : (s.putExit e x).detection = s.detection := rfl
@[simp] theorem State.putExit_fire (s : State) (e : Nat) (x : Exit) : (s.putExit e x).fire = s.fire := rfl
@[simp] theorem State.putExit_alarms (s : State) (e : Nat) (x : Exit) : (s.putExit e x).alarms = s.alarms := rfl
@[simp] theorem State.putExit_regimes (s : State) (e : Nat) (x : Exit) : (s.putExit e x).regimes = s.regimes := rfl
@[simp] theorem State.putExit_doors (s : State) (e : Nat) (x : Exit) : (s.putExit e x).doors = s.doors := rfl
@[simp] theorem State.putExit_guard (s : State) (e : Nat) (x : Exit) : (s.putExit e x).guard = s.guard := rfl
@[simp] theorem State.putExit_calls (s : State) (e : Nat) (x : Exit) : (s.putExit e x).calls = s.calls := rfl
@[simp] theorem State.putExit_lamps (s : State) (e : Nat) (x : Exit) : (s.putExit e x).lamps = s.lamps := rfl
@[simp] theorem State.putExit_link (s : State) (e : Nat) (x : Exit) : (s.putExit e x).link = s.link := rfl
@[simp] theorem State.putExit_store (s : State) (e : Nat) (x : Exit) : (s.putExit e x).store = s.store := rfl
@[simp] theorem State.putExit_pending (s : State) (e : Nat) (x : Exit) : (s.putExit e x).pending = s.pending := rfl
@[simp] theorem State.putExit_routes_signs (s : State) (e : Nat) (x : Exit) :
    (s.putExit e x).routes.signs = s.routes.signs := rfl
@[simp] theorem State.putExit_routes_sequences (s : State) (e : Nat) (x : Exit) :
    (s.putExit e x).routes.sequences = s.routes.sequences := rfl
@[simp] theorem State.putExit_routes_steps (s : State) (e : Nat) (x : Exit) :
    (s.putExit e x).routes.steps = s.routes.steps := rfl

@[simp] theorem State.putSign_clock (s : State) (n : Nat) (x : Sign) : (s.putSign n x).clock = s.clock := rfl
@[simp] theorem State.putSign_loops (s : State) (n : Nat) (x : Sign) : (s.putSign n x).loops = s.loops := rfl
@[simp] theorem State.putSign_detection (s : State) (n : Nat) (x : Sign) : (s.putSign n x).detection = s.detection := rfl
@[simp] theorem State.putSign_fire (s : State) (n : Nat) (x : Sign) : (s.putSign n x).fire = s.fire := rfl
@[simp] theorem State.putSign_alarms (s : State) (n : Nat) (x : Sign) : (s.putSign n x).alarms = s.alarms := rfl
@[simp] theorem State.putSign_regimes (s : State) (n : Nat) (x : Sign) : (s.putSign n x).regimes = s.regimes := rfl
@[simp] theorem State.putSign_doors (s : State) (n : Nat) (x : Sign) : (s.putSign n x).doors = s.doors := rfl
@[simp] theorem State.putSign_guard (s : State) (n : Nat) (x : Sign) : (s.putSign n x).guard = s.guard := rfl
@[simp] theorem State.putSign_calls (s : State) (n : Nat) (x : Sign) : (s.putSign n x).calls = s.calls := rfl
@[simp] theorem State.putSign_lamps (s : State) (n : Nat) (x : Sign) : (s.putSign n x).lamps = s.lamps := rfl
@[simp] theorem State.putSign_link (s : State) (n : Nat) (x : Sign) : (s.putSign n x).link = s.link := rfl
@[simp] theorem State.putSign_store (s : State) (n : Nat) (x : Sign) : (s.putSign n x).store = s.store := rfl
@[simp] theorem State.putSign_pending (s : State) (n : Nat) (x : Sign) : (s.putSign n x).pending = s.pending := rfl
@[simp] theorem State.putSign_routes_exits (s : State) (n : Nat) (x : Sign) :
    (s.putSign n x).routes.exits = s.routes.exits := rfl
@[simp] theorem State.putSign_routes_sequences (s : State) (n : Nat) (x : Sign) :
    (s.putSign n x).routes.sequences = s.routes.sequences := rfl
@[simp] theorem State.putSign_routes_steps (s : State) (n : Nat) (x : Sign) :
    (s.putSign n x).routes.steps = s.routes.steps := rfl

@[simp] theorem State.putLamp_clock (s : State) (p : Nat) (x : Option Lamp) : (s.putLamp p x).clock = s.clock := rfl
@[simp] theorem State.putLamp_loops (s : State) (p : Nat) (x : Option Lamp) : (s.putLamp p x).loops = s.loops := rfl
@[simp] theorem State.putLamp_detection (s : State) (p : Nat) (x : Option Lamp) : (s.putLamp p x).detection = s.detection := rfl
@[simp] theorem State.putLamp_fire (s : State) (p : Nat) (x : Option Lamp) : (s.putLamp p x).fire = s.fire := rfl
@[simp] theorem State.putLamp_alarms (s : State) (p : Nat) (x : Option Lamp) : (s.putLamp p x).alarms = s.alarms := rfl
@[simp] theorem State.putLamp_regimes (s : State) (p : Nat) (x : Option Lamp) : (s.putLamp p x).regimes = s.regimes := rfl
@[simp] theorem State.putLamp_doors (s : State) (p : Nat) (x : Option Lamp) : (s.putLamp p x).doors = s.doors := rfl
@[simp] theorem State.putLamp_guard (s : State) (p : Nat) (x : Option Lamp) : (s.putLamp p x).guard = s.guard := rfl
@[simp] theorem State.putLamp_calls (s : State) (p : Nat) (x : Option Lamp) : (s.putLamp p x).calls = s.calls := rfl
@[simp] theorem State.putLamp_routes (s : State) (p : Nat) (x : Option Lamp) : (s.putLamp p x).routes = s.routes := rfl
@[simp] theorem State.putLamp_link (s : State) (p : Nat) (x : Option Lamp) : (s.putLamp p x).link = s.link := rfl
@[simp] theorem State.putLamp_store (s : State) (p : Nat) (x : Option Lamp) : (s.putLamp p x).store = s.store := rfl
@[simp] theorem State.putLamp_pending (s : State) (p : Nat) (x : Option Lamp) : (s.putLamp p x).pending = s.pending := rfl
@[simp] theorem State.putLamp_lamps_groups (s : State) (p : Nat) (x : Option Lamp) :
    (s.putLamp p x).lamps.groups = s.lamps.groups := rfl

@[simp] theorem State.putLampGroup_clock (s : State) (g : Nat) (x : LampGroup) : (s.putLampGroup g x).clock = s.clock := rfl
@[simp] theorem State.putLampGroup_loops (s : State) (g : Nat) (x : LampGroup) : (s.putLampGroup g x).loops = s.loops := rfl
@[simp] theorem State.putLampGroup_detection (s : State) (g : Nat) (x : LampGroup) : (s.putLampGroup g x).detection = s.detection := rfl
@[simp] theorem State.putLampGroup_fire (s : State) (g : Nat) (x : LampGroup) : (s.putLampGroup g x).fire = s.fire := rfl
@[simp] theorem State.putLampGroup_alarms (s : State) (g : Nat) (x : LampGroup) : (s.putLampGroup g x).alarms = s.alarms := rfl
@[simp] theorem State.putLampGroup_regimes (s : State) (g : Nat) (x : LampGroup) : (s.putLampGroup g x).regimes = s.regimes := rfl
@[simp] theorem State.putLampGroup_doors (s : State) (g : Nat) (x : LampGroup) : (s.putLampGroup g x).doors = s.doors := rfl
@[simp] theorem State.putLampGroup_guard (s : State) (g : Nat) (x : LampGroup) : (s.putLampGroup g x).guard = s.guard := rfl
@[simp] theorem State.putLampGroup_calls (s : State) (g : Nat) (x : LampGroup) : (s.putLampGroup g x).calls = s.calls := rfl
@[simp] theorem State.putLampGroup_routes (s : State) (g : Nat) (x : LampGroup) : (s.putLampGroup g x).routes = s.routes := rfl
@[simp] theorem State.putLampGroup_link (s : State) (g : Nat) (x : LampGroup) : (s.putLampGroup g x).link = s.link := rfl
@[simp] theorem State.putLampGroup_store (s : State) (g : Nat) (x : LampGroup) : (s.putLampGroup g x).store = s.store := rfl
@[simp] theorem State.putLampGroup_pending (s : State) (g : Nat) (x : LampGroup) : (s.putLampGroup g x).pending = s.pending := rfl
@[simp] theorem State.putLampGroup_lamps_lamps (s : State) (g : Nat) (x : LampGroup) :
    (s.putLampGroup g x).lamps.lamps = s.lamps.lamps := rfl

@[simp] theorem State.putPresence_clock (s : State) (p : Nat) (b : Bool) : (s.putPresence p b).clock = s.clock := rfl
@[simp] theorem State.putPresence_loops (s : State) (p : Nat) (b : Bool) : (s.putPresence p b).loops = s.loops := rfl
@[simp] theorem State.putPresence_detection (s : State) (p : Nat) (b : Bool) : (s.putPresence p b).detection = s.detection := rfl
@[simp] theorem State.putPresence_fire (s : State) (p : Nat) (b : Bool) : (s.putPresence p b).fire = s.fire := rfl
@[simp] theorem State.putPresence_alarms (s : State) (p : Nat) (b : Bool) : (s.putPresence p b).alarms = s.alarms := rfl
@[simp] theorem State.putPresence_regimes (s : State) (p : Nat) (b : Bool) : (s.putPresence p b).regimes = s.regimes := rfl
@[simp] theorem State.putPresence_doors (s : State) (p : Nat) (b : Bool) : (s.putPresence p b).doors = s.doors := rfl
@[simp] theorem State.putPresence_calls (s : State) (p : Nat) (b : Bool) : (s.putPresence p b).calls = s.calls := rfl
@[simp] theorem State.putPresence_routes (s : State) (p : Nat) (b : Bool) : (s.putPresence p b).routes = s.routes := rfl
@[simp] theorem State.putPresence_lamps (s : State) (p : Nat) (b : Bool) : (s.putPresence p b).lamps = s.lamps := rfl
@[simp] theorem State.putPresence_link (s : State) (p : Nat) (b : Bool) : (s.putPresence p b).link = s.link := rfl
@[simp] theorem State.putPresence_store (s : State) (p : Nat) (b : Bool) : (s.putPresence p b).store = s.store := rfl
@[simp] theorem State.putPresence_pending (s : State) (p : Nat) (b : Bool) : (s.putPresence p b).pending = s.pending := rfl
@[simp] theorem State.putPresence_guard_grants (s : State) (p : Nat) (b : Bool) :
    (s.putPresence p b).guard.grants = s.guard.grants := rfl
@[simp] theorem State.putPresence_guard_nextGrant (s : State) (p : Nat) (b : Bool) :
    (s.putPresence p b).guard.nextGrant = s.guard.nextGrant := rfl
@[simp] theorem State.putPresence_guard_quiet (s : State) (p : Nat) (b : Bool) :
    (s.putPresence p b).guard.quiet = s.guard.quiet := rfl
@[simp] theorem State.putPresence_guard_doorIntrusion (s : State) (p : Nat) (b : Bool) :
    (s.putPresence p b).guard.doorIntrusion = s.guard.doorIntrusion := rfl
@[simp] theorem State.putPresence_guard_doorExit (s : State) (p : Nat) (b : Bool) :
    (s.putPresence p b).guard.doorExit = s.guard.doorExit := rfl

@[simp] theorem State.putDoorIntrusion_clock (s : State) (d : Nat) (b : Bool) : (s.putDoorIntrusion d b).clock = s.clock := rfl
@[simp] theorem State.putDoorIntrusion_loops (s : State) (d : Nat) (b : Bool) : (s.putDoorIntrusion d b).loops = s.loops := rfl
@[simp] theorem State.putDoorIntrusion_detection (s : State) (d : Nat) (b : Bool) : (s.putDoorIntrusion d b).detection = s.detection := rfl
@[simp] theorem State.putDoorIntrusion_fire (s : State) (d : Nat) (b : Bool) : (s.putDoorIntrusion d b).fire = s.fire := rfl
@[simp] theorem State.putDoorIntrusion_alarms (s : State) (d : Nat) (b : Bool) : (s.putDoorIntrusion d b).alarms = s.alarms := rfl
@[simp] theorem State.putDoorIntrusion_regimes (s : State) (d : Nat) (b : Bool) : (s.putDoorIntrusion d b).regimes = s.regimes := rfl
@[simp] theorem State.putDoorIntrusion_doors (s : State) (d : Nat) (b : Bool) : (s.putDoorIntrusion d b).doors = s.doors := rfl
@[simp] theorem State.putDoorIntrusion_calls (s : State) (d : Nat) (b : Bool) : (s.putDoorIntrusion d b).calls = s.calls := rfl
@[simp] theorem State.putDoorIntrusion_routes (s : State) (d : Nat) (b : Bool) : (s.putDoorIntrusion d b).routes = s.routes := rfl
@[simp] theorem State.putDoorIntrusion_lamps (s : State) (d : Nat) (b : Bool) : (s.putDoorIntrusion d b).lamps = s.lamps := rfl
@[simp] theorem State.putDoorIntrusion_link (s : State) (d : Nat) (b : Bool) : (s.putDoorIntrusion d b).link = s.link := rfl
@[simp] theorem State.putDoorIntrusion_store (s : State) (d : Nat) (b : Bool) : (s.putDoorIntrusion d b).store = s.store := rfl
@[simp] theorem State.putDoorIntrusion_pending (s : State) (d : Nat) (b : Bool) : (s.putDoorIntrusion d b).pending = s.pending := rfl
@[simp] theorem State.putDoorIntrusion_guard_grants (s : State) (d : Nat) (b : Bool) :
    (s.putDoorIntrusion d b).guard.grants = s.guard.grants := rfl
@[simp] theorem State.putDoorIntrusion_guard_nextGrant (s : State) (d : Nat) (b : Bool) :
    (s.putDoorIntrusion d b).guard.nextGrant = s.guard.nextGrant := rfl
@[simp] theorem State.putDoorIntrusion_guard_quiet (s : State) (d : Nat) (b : Bool) :
    (s.putDoorIntrusion d b).guard.quiet = s.guard.quiet := rfl
@[simp] theorem State.putDoorIntrusion_guard_presence (s : State) (d : Nat) (b : Bool) :
    (s.putDoorIntrusion d b).guard.presence = s.guard.presence := rfl
@[simp] theorem State.putDoorIntrusion_guard_doorExit (s : State) (d : Nat) (b : Bool) :
    (s.putDoorIntrusion d b).guard.doorExit = s.guard.doorExit := rfl

@[simp] theorem State.putDoorExit_clock (s : State) (d : Nat) (b : Bool) : (s.putDoorExit d b).clock = s.clock := rfl
@[simp] theorem State.putDoorExit_loops (s : State) (d : Nat) (b : Bool) : (s.putDoorExit d b).loops = s.loops := rfl
@[simp] theorem State.putDoorExit_detection (s : State) (d : Nat) (b : Bool) : (s.putDoorExit d b).detection = s.detection := rfl
@[simp] theorem State.putDoorExit_fire (s : State) (d : Nat) (b : Bool) : (s.putDoorExit d b).fire = s.fire := rfl
@[simp] theorem State.putDoorExit_alarms (s : State) (d : Nat) (b : Bool) : (s.putDoorExit d b).alarms = s.alarms := rfl
@[simp] theorem State.putDoorExit_regimes (s : State) (d : Nat) (b : Bool) : (s.putDoorExit d b).regimes = s.regimes := rfl
@[simp] theorem State.putDoorExit_doors (s : State) (d : Nat) (b : Bool) : (s.putDoorExit d b).doors = s.doors := rfl
@[simp] theorem State.putDoorExit_calls (s : State) (d : Nat) (b : Bool) : (s.putDoorExit d b).calls = s.calls := rfl
@[simp] theorem State.putDoorExit_routes (s : State) (d : Nat) (b : Bool) : (s.putDoorExit d b).routes = s.routes := rfl
@[simp] theorem State.putDoorExit_lamps (s : State) (d : Nat) (b : Bool) : (s.putDoorExit d b).lamps = s.lamps := rfl
@[simp] theorem State.putDoorExit_link (s : State) (d : Nat) (b : Bool) : (s.putDoorExit d b).link = s.link := rfl
@[simp] theorem State.putDoorExit_store (s : State) (d : Nat) (b : Bool) : (s.putDoorExit d b).store = s.store := rfl
@[simp] theorem State.putDoorExit_pending (s : State) (d : Nat) (b : Bool) : (s.putDoorExit d b).pending = s.pending := rfl
@[simp] theorem State.putDoorExit_guard_grants (s : State) (d : Nat) (b : Bool) :
    (s.putDoorExit d b).guard.grants = s.guard.grants := rfl
@[simp] theorem State.putDoorExit_guard_nextGrant (s : State) (d : Nat) (b : Bool) :
    (s.putDoorExit d b).guard.nextGrant = s.guard.nextGrant := rfl
@[simp] theorem State.putDoorExit_guard_quiet (s : State) (d : Nat) (b : Bool) :
    (s.putDoorExit d b).guard.quiet = s.guard.quiet := rfl
@[simp] theorem State.putDoorExit_guard_presence (s : State) (d : Nat) (b : Bool) :
    (s.putDoorExit d b).guard.presence = s.guard.presence := rfl
@[simp] theorem State.putDoorExit_guard_doorIntrusion (s : State) (d : Nat) (b : Bool) :
    (s.putDoorExit d b).guard.doorIntrusion = s.guard.doorIntrusion := rfl

@[simp] theorem State.setQueue_clock (s : State) (q : List Call) : (s.setQueue q).clock = s.clock := rfl
@[simp] theorem State.setQueue_loops (s : State) (q : List Call) : (s.setQueue q).loops = s.loops := rfl
@[simp] theorem State.setQueue_detection (s : State) (q : List Call) : (s.setQueue q).detection = s.detection := rfl
@[simp] theorem State.setQueue_fire (s : State) (q : List Call) : (s.setQueue q).fire = s.fire := rfl
@[simp] theorem State.setQueue_alarms (s : State) (q : List Call) : (s.setQueue q).alarms = s.alarms := rfl
@[simp] theorem State.setQueue_regimes (s : State) (q : List Call) : (s.setQueue q).regimes = s.regimes := rfl
@[simp] theorem State.setQueue_doors (s : State) (q : List Call) : (s.setQueue q).doors = s.doors := rfl
@[simp] theorem State.setQueue_guard (s : State) (q : List Call) : (s.setQueue q).guard = s.guard := rfl
@[simp] theorem State.setQueue_routes (s : State) (q : List Call) : (s.setQueue q).routes = s.routes := rfl
@[simp] theorem State.setQueue_lamps (s : State) (q : List Call) : (s.setQueue q).lamps = s.lamps := rfl
@[simp] theorem State.setQueue_link (s : State) (q : List Call) : (s.setQueue q).link = s.link := rfl
@[simp] theorem State.setQueue_store (s : State) (q : List Call) : (s.setQueue q).store = s.store := rfl
@[simp] theorem State.setQueue_pending (s : State) (q : List Call) : (s.setQueue q).pending = s.pending := rfl
@[simp] theorem State.setQueue_calls_next (s : State) (q : List Call) :
    (s.setQueue q).calls.next = s.calls.next := rfl

@[simp] theorem State.answer_clock (s : State) (code tag : Byte) (st : Status) (b : ReplyBody) : (s.answer code tag st b).clock = s.clock := rfl
@[simp] theorem State.answer_loops (s : State) (code tag : Byte) (st : Status) (b : ReplyBody) : (s.answer code tag st b).loops = s.loops := rfl
@[simp] theorem State.answer_detection (s : State) (code tag : Byte) (st : Status) (b : ReplyBody) : (s.answer code tag st b).detection = s.detection := rfl
@[simp] theorem State.answer_fire (s : State) (code tag : Byte) (st : Status) (b : ReplyBody) : (s.answer code tag st b).fire = s.fire := rfl
@[simp] theorem State.answer_alarms (s : State) (code tag : Byte) (st : Status) (b : ReplyBody) : (s.answer code tag st b).alarms = s.alarms := rfl
@[simp] theorem State.answer_regimes (s : State) (code tag : Byte) (st : Status) (b : ReplyBody) : (s.answer code tag st b).regimes = s.regimes := rfl
@[simp] theorem State.answer_doors (s : State) (code tag : Byte) (st : Status) (b : ReplyBody) : (s.answer code tag st b).doors = s.doors := rfl
@[simp] theorem State.answer_guard (s : State) (code tag : Byte) (st : Status) (b : ReplyBody) : (s.answer code tag st b).guard = s.guard := rfl
@[simp] theorem State.answer_calls (s : State) (code tag : Byte) (st : Status) (b : ReplyBody) : (s.answer code tag st b).calls = s.calls := rfl
@[simp] theorem State.answer_routes (s : State) (code tag : Byte) (st : Status) (b : ReplyBody) : (s.answer code tag st b).routes = s.routes := rfl
@[simp] theorem State.answer_lamps (s : State) (code tag : Byte) (st : Status) (b : ReplyBody) : (s.answer code tag st b).lamps = s.lamps := rfl
@[simp] theorem State.answer_store (s : State) (code tag : Byte) (st : Status) (b : ReplyBody) : (s.answer code tag st b).store = s.store := rfl
@[simp] theorem State.answer_pending (s : State) (code tag : Byte) (st : Status) (b : ReplyBody) : (s.answer code tag st b).pending = s.pending := rfl
@[simp] theorem State.answer_link_rx (s : State) (code tag : Byte) (st : Status) (b : ReplyBody) :
    (s.answer code tag st b).link.rx = s.link.rx := rfl
@[simp] theorem State.answer_link_holder (s : State) (code tag : Byte) (st : Status) (b : ReplyBody) :
    (s.answer code tag st b).link.holder = s.link.holder := rfl
@[simp] theorem State.answer_link_heldReply (s : State) (code tag : Byte) (st : Status) (b : ReplyBody) :
    (s.answer code tag st b).link.heldReply = s.link.heldReply := rfl
@[simp] theorem State.answer_link_sending (s : State) (code tag : Byte) (st : Status) (b : ReplyBody) :
    (s.answer code tag st b).link.sending = s.link.sending := rfl
@[simp] theorem State.answer_link_reports (s : State) (code tag : Byte) (st : Status) (b : ReplyBody) :
    (s.answer code tag st b).link.reports = s.link.reports := rfl
@[simp] theorem State.answer_link_lost (s : State) (code tag : Byte) (st : Status) (b : ReplyBody) :
    (s.answer code tag st b).link.lost = s.link.lost := rfl
@[simp] theorem State.answer_link_discards (s : State) (code tag : Byte) (st : Status) (b : ReplyBody) :
    (s.answer code tag st b).link.discards = s.link.discards := rfl
@[simp] theorem State.answer_link_startDue (s : State) (code tag : Byte) (st : Status) (b : ReplyBody) :
    (s.answer code tag st b).link.startDue = s.link.startDue := rfl

@[simp] theorem State.report_clock (s : State) (b : ReportBody) : (s.report b).clock = s.clock := by
  unfold State.report; split <;> rfl
@[simp] theorem State.report_loops (s : State) (b : ReportBody) : (s.report b).loops = s.loops := by
  unfold State.report; split <;> rfl
@[simp] theorem State.report_detection (s : State) (b : ReportBody) : (s.report b).detection = s.detection := by
  unfold State.report; split <;> rfl
@[simp] theorem State.report_fire (s : State) (b : ReportBody) : (s.report b).fire = s.fire := by
  unfold State.report; split <;> rfl
@[simp] theorem State.report_alarms (s : State) (b : ReportBody) : (s.report b).alarms = s.alarms := by
  unfold State.report; split <;> rfl
@[simp] theorem State.report_regimes (s : State) (b : ReportBody) : (s.report b).regimes = s.regimes := by
  unfold State.report; split <;> rfl
@[simp] theorem State.report_doors (s : State) (b : ReportBody) : (s.report b).doors = s.doors := by
  unfold State.report; split <;> rfl
@[simp] theorem State.report_guard (s : State) (b : ReportBody) : (s.report b).guard = s.guard := by
  unfold State.report; split <;> rfl
@[simp] theorem State.report_calls (s : State) (b : ReportBody) : (s.report b).calls = s.calls := by
  unfold State.report; split <;> rfl
@[simp] theorem State.report_routes (s : State) (b : ReportBody) : (s.report b).routes = s.routes := by
  unfold State.report; split <;> rfl
@[simp] theorem State.report_lamps (s : State) (b : ReportBody) : (s.report b).lamps = s.lamps := by
  unfold State.report; split <;> rfl
@[simp] theorem State.report_store (s : State) (b : ReportBody) : (s.report b).store = s.store := by
  unfold State.report; split <;> rfl
@[simp] theorem State.report_pending (s : State) (b : ReportBody) : (s.report b).pending = s.pending := by
  unfold State.report; split <;> rfl
@[simp] theorem State.report_link_rx (s : State) (b : ReportBody) : (s.report b).link.rx = s.link.rx := by
  unfold State.report; split <;> rfl
@[simp] theorem State.report_link_holder (s : State) (b : ReportBody) : (s.report b).link.holder = s.link.holder := by
  unfold State.report; split <;> rfl
@[simp] theorem State.report_link_reply (s : State) (b : ReportBody) : (s.report b).link.reply = s.link.reply := by
  unfold State.report; split <;> rfl
@[simp] theorem State.report_link_heldReply (s : State) (b : ReportBody) : (s.report b).link.heldReply = s.link.heldReply := by
  unfold State.report; split <;> rfl
@[simp] theorem State.report_link_sending (s : State) (b : ReportBody) : (s.report b).link.sending = s.link.sending := by
  unfold State.report; split <;> rfl
@[simp] theorem State.report_link_discards (s : State) (b : ReportBody) : (s.report b).link.discards = s.link.discards := by
  unfold State.report; split <;> rfl
@[simp] theorem State.report_link_startDue (s : State) (b : ReportBody) : (s.report b).link.startDue = s.link.startDue := by
  unfold State.report; split <;> rfl

@[simp] theorem State.pump_clock (s : State) : (s.pump).clock = s.clock := by
  unfold State.pump; split <;> first | rfl | (split <;> rfl)
@[simp] theorem State.pump_loops (s : State) : (s.pump).loops = s.loops := by
  unfold State.pump; split <;> first | rfl | (split <;> rfl)
@[simp] theorem State.pump_detection (s : State) : (s.pump).detection = s.detection := by
  unfold State.pump; split <;> first | rfl | (split <;> rfl)
@[simp] theorem State.pump_fire (s : State) : (s.pump).fire = s.fire := by
  unfold State.pump; split <;> first | rfl | (split <;> rfl)
@[simp] theorem State.pump_alarms (s : State) : (s.pump).alarms = s.alarms := by
  unfold State.pump; split <;> first | rfl | (split <;> rfl)
@[simp] theorem State.pump_regimes (s : State) : (s.pump).regimes = s.regimes := by
  unfold State.pump; split <;> first | rfl | (split <;> rfl)
@[simp] theorem State.pump_doors (s : State) : (s.pump).doors = s.doors := by
  unfold State.pump; split <;> first | rfl | (split <;> rfl)
@[simp] theorem State.pump_guard (s : State) : (s.pump).guard = s.guard := by
  unfold State.pump; split <;> first | rfl | (split <;> rfl)
@[simp] theorem State.pump_calls (s : State) : (s.pump).calls = s.calls := by
  unfold State.pump; split <;> first | rfl | (split <;> rfl)
@[simp] theorem State.pump_routes (s : State) : (s.pump).routes = s.routes := by
  unfold State.pump; split <;> first | rfl | (split <;> rfl)
@[simp] theorem State.pump_lamps (s : State) : (s.pump).lamps = s.lamps := by
  unfold State.pump; split <;> first | rfl | (split <;> rfl)
@[simp] theorem State.pump_store (s : State) : (s.pump).store = s.store := by
  unfold State.pump; split <;> first | rfl | (split <;> rfl)
@[simp] theorem State.pump_pending (s : State) : (s.pump).pending = s.pending := by
  unfold State.pump; split <;> first | rfl | (split <;> rfl)
@[simp] theorem State.pump_link_rx (s : State) : (s.pump).link.rx = s.link.rx := by
  unfold State.pump; split <;> first | rfl | (split <;> rfl)
@[simp] theorem State.pump_link_holder (s : State) : (s.pump).link.holder = s.link.holder := by
  unfold State.pump; split <;> first | rfl | (split <;> rfl)
@[simp] theorem State.pump_link_heldReply (s : State) : (s.pump).link.heldReply = s.link.heldReply := by
  unfold State.pump; split <;> first | rfl | (split <;> rfl)
@[simp] theorem State.pump_link_discards (s : State) : (s.pump).link.discards = s.link.discards := by
  unfold State.pump; split <;> first | rfl | (split <;> rfl)
@[simp] theorem State.pump_link_startDue (s : State) : (s.pump).link.startDue = s.link.startDue := by
  unfold State.pump; split <;> first | rfl | (split <;> rfl)

/-! ## Reading a record after one is written -/

@[simp] theorem State.zone_putZone (s : State) {i : Nat} (h : i < 48) (x : Zone) : (s.putZone i x).zone i = x :=
  Table.get_put_self _ h x
theorem State.zone_putZone_ne (s : State) {i j : Nat} (h : i ≠ j) (x : Zone) : (s.putZone i x).zone j = s.zone j :=
  Table.get_put_ne _ h x

@[simp] theorem State.group_putGroup (s : State) {i : Nat} (h : i < 8) (x : Group) : (s.putGroup i x).group i = x :=
  Table.get_put_self _ h x
theorem State.group_putGroup_ne (s : State) {i j : Nat} (h : i ≠ j) (x : Group) : (s.putGroup i x).group j = s.group j :=
  Table.get_put_ne _ h x

@[simp] theorem State.door_putDoor (s : State) {i : Nat} (h : i < 32) (x : Door) : (s.putDoor i x).door i = x :=
  Table.get_put_self _ h x
theorem State.door_putDoor_ne (s : State) {i j : Nat} (h : i ≠ j) (x : Door) : (s.putDoor i x).door j = s.door j :=
  Table.get_put_ne _ h x

@[simp] theorem State.pair_putPair (s : State) {i : Nat} (h : i < 8) (x : Pair) : (s.putPair i x).pair i = x :=
  Table.get_put_self _ h x
theorem State.pair_putPair_ne (s : State) {i j : Nat} (h : i ≠ j) (x : Pair) : (s.putPair i x).pair j = s.pair j :=
  Table.get_put_ne _ h x

@[simp] theorem State.exit_putExit (s : State) {i : Nat} (h : i < 12) (x : Exit) : (s.putExit i x).exit i = x :=
  Table.get_put_self _ h x
theorem State.exit_putExit_ne (s : State) {i j : Nat} (h : i ≠ j) (x : Exit) : (s.putExit i x).exit j = s.exit j :=
  Table.get_put_ne _ h x

@[simp] theorem State.sign_putSign (s : State) {i : Nat} (h : i < 64) (x : Sign) : (s.putSign i x).sign i = x :=
  Table.get_put_self _ h x
theorem State.sign_putSign_ne (s : State) {i j : Nat} (h : i ≠ j) (x : Sign) : (s.putSign i x).sign j = s.sign j :=
  Table.get_put_ne _ h x

@[simp] theorem State.lamp_putLamp (s : State) {i : Nat} (h : i < 256) (x : Option Lamp) : (s.putLamp i x).lamp i = x :=
  Table.get_put_self _ h x
theorem State.lamp_putLamp_ne (s : State) {i j : Nat} (h : i ≠ j) (x : Option Lamp) : (s.putLamp i x).lamp j = s.lamp j :=
  Table.get_put_ne _ h x

@[simp] theorem State.lampGroup_putLampGroup (s : State) {i : Nat} (h : i < 4) (x : LampGroup) : (s.putLampGroup i x).lampGroup i = x :=
  Table.get_put_self _ h x
theorem State.lampGroup_putLampGroup_ne (s : State) {i j : Nat} (h : i ≠ j) (x : LampGroup) : (s.putLampGroup i x).lampGroup j = s.lampGroup j :=
  Table.get_put_ne _ h x

@[simp] theorem State.detector_putDetector (s : State) {i : Nat} (h : i < 256) (x : Option Detector) : (s.putDetector i x).detector i = x :=
  Table.get_put_self _ h x
theorem State.detector_putDetector_ne (s : State) {i j : Nat} (h : i ≠ j) (x : Option Detector) : (s.putDetector i x).detector j = s.detector j :=
  Table.get_put_ne _ h x

@[simp] theorem State.profile_putProfile (s : State) {i : Nat} (h : i < 8) (x : Profile) : (s.putProfile i x).profile i = x :=
  Table.get_put_self _ h x
theorem State.profile_putProfile_ne (s : State) {i j : Nat} (h : i ≠ j) (x : Profile) : (s.putProfile i x).profile j = s.profile j :=
  Table.get_put_ne _ h x

theorem State.point_setWord (s : State) (p : Nat) (w : OutWord) (q : Nat) :
    (s.setWord p w).point q = if p = q ∧ p < 256 then { s.point p with word := w } else s.point q :=
  s.point_putPoint p _ q

end Sys2Proof.Machine
end

