-- ==== Sys2Proof/Laws/Messages.lean ====
section
/-! SUPPORT. What reports, replies and the choice of the next frame leave of what the link has to send. -/

namespace Sys2Proof.Machine

/-- The choice of the next frame moves messages and loses none. -/
@[simp] theorem State.pump_replying (s : State) : s.pump.link.replying = s.link.replying := by
  unfold State.pump
  split
  · rfl
  · next h =>
    have hs : s.link.sending = none := by simp at h; exact h.1
    split
    · next hr => simp [Link.replying, hs, hr]
    · next hr _ => simp [Link.replying, hs, hr]
    · rfl

@[simp] theorem State.pump_outbox (s : State) : s.pump.link.outbox = s.link.outbox := by
  unfold State.pump
  split
  · rfl
  · next h =>
    have hs : s.link.sending = none := by simp at h; exact h.1
    split
    · simp [Link.outbox, hs]
    · next hq => simp [Link.outbox, hs, hq]
    · rfl

theorem State.report_reports (s : State) (b : ReportBody) (h : s.link.reports.length < 96) :
    (s.report b).link.reports = s.link.reports ++ [⟨s.now, b⟩] := by simp [State.report, h]

theorem State.report_outbox (s : State) (b : ReportBody) (h : s.link.reports.length < 96) :
    (s.report b).link.outbox = s.link.outbox ++ [⟨s.now, b⟩] := by simp [State.report, Link.outbox, h]

@[simp] theorem State.report_replying (s : State) (b : ReportBody) : (s.report b).link.replying = s.link.replying := by
  simp [Link.replying]

/-- A free port is sending no reply and holds none. -/
theorem Link.free_iff (l : Link) : l.free = true ↔
    l.reply = none ∧ l.heldReply = none ∧ (∀ r, l.sending ≠ some (.reply r)) ∧ l.startDue = false := by
  unfold Link.free Link.serving
  cases l.reply <;> cases l.heldReply <;> cases l.startDue <;> simp
  split
  · next r h => simp [h]
  · next h => simp; exact fun r hr => h r hr

/-- A reply made on a link that sends none is the one being served. -/
theorem State.answer_replying (s : State) (code tag : Byte) (st : Status) (b : ReplyBody)
    (h : ∀ r, s.link.sending ≠ some (.reply r)) :
    (s.answer code tag st b).link.replying = some ⟨code, tag, st, b⟩ := by
  unfold Link.replying State.answer
  dsimp only
  split
  · next r hr => exact absurd hr (h r)
  · rfl

@[simp] theorem State.answer_outbox (s : State) (code tag : Byte) (st : Status) (b : ReplyBody) :
    (s.answer code tag st b).link.outbox = s.link.outbox := rfl

/-- A request that finds the port free is served, and the transmit path chooses. -/
theorem request_free (i : Instr) (serve : State → State) (s : State) (h : s.link.free = true) :
    request i serve s = .next (serve s).pump := by
  have h' := (Link.free_iff _).1 h
  have hs : s.link.serving = false := by
    simp only [Link.free, Bool.and_eq_true, Bool.not_eq_true'] at h; exact h.1
  simp [request, hs, h'.2.2.2, done]

/-- A request that finds the port busy joins the request holder, or is discarded and counted. -/
theorem request_busy (i : Instr) (serve : State → State) (s : State) (h : s.link.free = false) :
    request i serve s = .next (s.hold (.request i)).pump := by
  have hs : (s.link.serving || s.link.startDue) = true := by
    simp only [Link.free] at h
    cases h₁ : s.link.serving <;> cases h₂ : s.link.startDue <;> simp_all
  simp [request, hs, done]

end Sys2Proof.Machine
end

