-- ==== Sys2Proof/Laws/PerInstr.lean ====
section
/-! SUPPORT. The family Request: what holds of each command as syntax. A command that is a request carries the code of a
request kind of 12.5 and is well formed whatever its fields; an event of the part carries no code, and no tag. -/

namespace Sys2Proof.Laws.Request

open Sys2Proof.Machine

/-- A request has a code of 12.5 and is well formed; an event of the part has neither code nor tag. -/
def Statement (i : Instr) : Prop :=
  match requestCode i with
  | some c => isRequestCode c = true ∧ i.wellFormed = true
  | none => requestTag i = 0

theorem start : Statement (.start) := rfl
theorem receiveByte (byte : Byte) : Statement (.receiveByte byte) := rfl
theorem frameGapTimeout : Statement (.frameGapTimeout) := rfl
theorem unknownKind (kind tag : Byte) : Statement (.unknownKind kind tag) := rfl
theorem transmitFrameEnd : Statement (.transmitFrameEnd) := rfl
theorem standingAreaWriteDone : Statement (.standingAreaWriteDone) := rfl
theorem saveDone (good : Bool) : Statement (.saveDone good) := rfl
theorem getSummary (tag : Byte) : Statement (.getSummary tag) := ⟨by decide, rfl⟩
theorem getPoint (tag : Byte) (point : Nat) : Statement (.getPoint tag point) := ⟨by decide, rfl⟩
theorem getZone (tag : Byte) (zone : Nat) : Statement (.getZone tag zone) := ⟨by decide, rfl⟩
theorem getGroup (tag : Byte) (group : Nat) : Statement (.getGroup tag group) := ⟨by decide, rfl⟩
theorem getDoor (tag : Byte) (door : Nat) : Statement (.getDoor tag door) := ⟨by decide, rfl⟩
theorem getPair (tag : Byte) (pair : Nat) : Statement (.getPair tag pair) := ⟨by decide, rfl⟩
theorem getCalls (tag : Byte) : Statement (.getCalls tag) := ⟨by decide, rfl⟩
theorem getSign (tag : Byte) (sign : Nat) : Statement (.getSign tag sign) := ⟨by decide, rfl⟩
theorem getExit (tag : Byte) (exit : Nat) : Statement (.getExit tag exit) := ⟨by decide, rfl⟩
theorem getLampGroup (tag : Byte) (group : Nat) : Statement (.getLampGroup tag group) := ⟨by decide, rfl⟩
theorem getAlarms (tag : Byte) (page : Nat) : Statement (.getAlarms tag page) := ⟨by decide, rfl⟩
theorem cfgPoint (tag : Byte) (point : Nat) (setting : Option PointSetting) : Statement (.cfgPoint tag point setting) := ⟨by decide, rfl⟩
theorem cfgZone (tag : Byte) (zone : Nat) (setting : ZoneSetting) : Statement (.cfgZone tag zone setting) := ⟨by decide, rfl⟩
theorem cfgProfile (tag : Byte) (profile : Nat) (values : ProfileValues) : Statement (.cfgProfile tag profile values) := ⟨by decide, rfl⟩
theorem cfgGroup (tag : Byte) (group exitTime : Nat) (powerOn : Option Mode) : Statement (.cfgGroup tag group exitTime powerOn) := ⟨by decide, rfl⟩
theorem cfgDoor (tag : Byte) (door : Nat) (setting : Option DoorSetting) : Statement (.cfgDoor tag door setting) := ⟨by decide, rfl⟩
theorem cfgPair (tag : Byte) (pair : Nat) (setting : Option PairSetting) : Statement (.cfgPair tag pair setting) := ⟨by decide, rfl⟩
theorem cfgExit (tag : Byte) (exit : Nat) (setting : Option ExitSetting) : Statement (.cfgExit tag exit setting) := ⟨by decide, rfl⟩
theorem cfgSign (tag : Byte) (sign : Nat) (setting : Option SignSetting) : Statement (.cfgSign tag sign setting) := ⟨by decide, rfl⟩
theorem cfgSequence (tag : Byte) (sequence first count : Nat) (steps : List StepSetting) : Statement (.cfgSequence tag sequence first count steps) := ⟨by decide, rfl⟩
theorem cfgLamp (tag : Byte) (point : Nat) (setting : Option LampSetting) : Statement (.cfgLamp tag point setting) := ⟨by decide, rfl⟩
theorem cfgLampGroup (tag : Byte) (group length : Nat) : Statement (.cfgLampGroup tag group length) := ⟨by decide, rfl⟩
theorem saveSettings (tag : Byte) : Statement (.saveSettings tag) := ⟨by decide, rfl⟩
theorem isolate (tag : Byte) (target : Target) (ask : IsolationAsk) : Statement (.isolate tag target ask) := ⟨by decide, rfl⟩
theorem restoreIsolation (tag : Byte) (target : Target) : Statement (.restoreIsolation tag target) := ⟨by decide, rfl⟩
theorem acceptFire (tag : Byte) (zone : Nat) : Statement (.acceptFire tag zone) := ⟨by decide, rfl⟩
theorem confirmFire (tag : Byte) (zone : Nat) : Statement (.confirmFire tag zone) := ⟨by decide, rfl⟩
theorem silence (tag : Byte) : Statement (.silence tag) := ⟨by decide, rfl⟩
theorem resound (tag : Byte) : Statement (.resound tag) := ⟨by decide, rfl⟩
theorem fireReset (tag : Byte) : Statement (.fireReset tag) := ⟨by decide, rfl⟩
theorem stageSegment (tag : Byte) (group : Nat) (target : Option Mode) (minutes : Nat) (repeats : Bool) : Statement (.stageSegment tag group target minutes repeats) := ⟨by decide, rfl⟩
theorem setMode (tag : Byte) (group : Nat) (mode : Option Mode) : Statement (.setMode tag group mode) := ⟨by decide, rfl⟩
theorem releaseDoor (tag : Byte) (door : Nat) (seconds : Option Nat) : Statement (.releaseDoor tag door seconds) := ⟨by decide, rfl⟩
theorem holdDoor (tag : Byte) (door : Nat) : Statement (.holdDoor tag door) := ⟨by decide, rfl⟩
theorem lockDoor (tag : Byte) (door : Nat) : Statement (.lockDoor tag door) := ⟨by decide, rfl⟩
theorem doorRestore (tag : Byte) : Statement (.doorRestore tag) := ⟨by decide, rfl⟩
theorem grantPassage (tag : Byte) (zones : List Nat) (duration : Nat) : Statement (.grantPassage tag zones duration) := ⟨by decide, rfl⟩
theorem endPassage (tag : Byte) (number : Nat) : Statement (.endPassage tag number) := ⟨by decide, rfl⟩
theorem answerCall (tag : Byte) (number : Nat) : Statement (.answerCall tag number) := ⟨by decide, rfl⟩
theorem holdCall (tag : Byte) (number : Nat) : Statement (.holdCall tag number) := ⟨by decide, rfl⟩
theorem endCall (tag : Byte) (number : Nat) : Statement (.endCall tag number) := ⟨by decide, rfl⟩
theorem blockExit (tag : Byte) (exit : Nat) : Statement (.blockExit tag exit) := ⟨by decide, rfl⟩
theorem unblockExit (tag : Byte) (exit : Nat) : Statement (.unblockExit tag exit) := ⟨by decide, rfl⟩
theorem startTest (tag : Byte) (group : Nat) : Statement (.startTest tag group) := ⟨by decide, rfl⟩
theorem suspendTest (tag : Byte) (group : Nat) : Statement (.suspendTest tag group) := ⟨by decide, rfl⟩
theorem resumeTest (tag : Byte) (group : Nat) : Statement (.resumeTest tag group) := ⟨by decide, rfl⟩
theorem stopTest (tag : Byte) (group : Nat) : Statement (.stopTest tag group) := ⟨by decide, rfl⟩
theorem acceptAlarm (tag : Byte) (target : AcceptTarget) : Statement (.acceptAlarm tag target) := ⟨by decide, rfl⟩
theorem restart (tag : Byte) : Statement (.restart tag) := ⟨by decide, rfl⟩
theorem scanStart (loop : LoopId) : Statement (.scanStart loop) := rfl
theorem pointReply (loop : LoopId) (answer : Answer) : Statement (.pointReply loop answer) := rfl
theorem replyWindowExpiry (loop : LoopId) : Statement (.replyWindowExpiry loop) := rfl
theorem startUpHoldEnd : Statement (.startUpHoldEnd) := rfl
theorem driftChance (point : Nat) : Statement (.driftChance point) := rfl
theorem heatWindowCapture (point : Nat) : Statement (.heatWindowCapture point) := rfl
theorem acceptTimerExpiry (zone : Nat) : Statement (.acceptTimerExpiry zone) := rfl
theorem investigationTimerExpiry (zone : Nat) : Statement (.investigationTimerExpiry zone) := rfl
theorem pointIsolationExpiry (point : Nat) : Statement (.pointIsolationExpiry point) := rfl
theorem zoneIsolationExpiry (zone : Nat) : Statement (.zoneIsolationExpiry zone) := rfl
theorem lineInputSample (evacIn mainsOk : Bool) : Statement (.lineInputSample evacIn mainsOk) := rfl
theorem evacInChange (active : Bool) : Statement (.evacInChange active) := rfl
theorem mainsOkChange (present : Bool) : Statement (.mainsOkChange present) := rfl
theorem segmentExpiry (group : Nat) : Statement (.segmentExpiry group) := rfl
theorem exitTimeExpiry (group : Nat) : Statement (.exitTimeExpiry group) := rfl
theorem retryTimerExpiry (group : Nat) : Statement (.retryTimerExpiry group) := rfl
theorem releaseTimerExpiry (door : Nat) : Statement (.releaseTimerExpiry door) := rfl
theorem graceTimerExpiry (door : Nat) : Statement (.graceTimerExpiry door) := rfl
theorem closeIgnoreWindowEnd (door : Nat) : Statement (.closeIgnoreWindowEnd door) := rfl
theorem allowanceTimerExpiry (door : Nat) : Statement (.allowanceTimerExpiry door) := rfl
theorem quietTimerExpiry (door : Nat) : Statement (.quietTimerExpiry door) := rfl
theorem pendingWaitExpiry (pair : Nat) : Statement (.pendingWaitExpiry pair) := rfl
theorem gmQuietTimerExpiry : Statement (.gmQuietTimerExpiry) := rfl
theorem grantExpiry (number : Nat) : Statement (.grantExpiry number) := rfl
theorem offerTimerExpiry (number : Nat) : Statement (.offerTimerExpiry number) := rfl
theorem limitTimerExpiry (number : Nat) : Statement (.limitTimerExpiry number) := rfl
theorem sequenceStep (sign : Nat) : Statement (.sequenceStep sign) := rfl
theorem suspensionLimit (group : Nat) : Statement (.suspensionLimit group) := rfl
theorem testCompleted (group : Nat) : Statement (.testCompleted group) := rfl
theorem rechargeExpiry (group : Nat) : Statement (.rechargeExpiry group) := rfl

end Sys2Proof.Laws.Request
end

