-- ==== Sys2Proof/Laws/Time.lean ====
section
/-! SUPPORT. What one tick touches: counts, and nothing else. -/

namespace Sys2Proof.Machine

/-- One tick moves counts: it raises, reports, writes and decides nothing. -/
theorem State.tick_changes (s : State) :
    Changes [.clock, .points, .zones, .regimes, .doors, .pairs, .grants, .quiet, .calls, .lampGroups] s s.tick := by
  refine ⟨fun q hq => ?_, id, id, fun h => ?_⟩
  · cases q with
    | words =>
      intro p
      let f : Nat → Point → Point := fun _ x => { x with isolation := x.isolation.tick }
      show ((s.loops.points.map f).get p).word = (s.loops.points.get p).word
      by_cases hp : p < 256
      · rw [Table.get_map _ _ hp]
      · rw [Table.get_out _ (Nat.le_of_not_lt hp), Table.get_out _ (Nat.le_of_not_lt hp)]
    | presses =>
      intro p
      let f : Nat → Point → Point := fun _ x => { x with isolation := x.isolation.tick }
      show ((s.loops.points.map f).get p).deferred = (s.loops.points.get p).deferred
      by_cases hp : p < 256
      · rw [Table.get_map _ _ hp]
      · rw [Table.get_out _ (Nat.le_of_not_lt hp), Table.get_out _ (Nat.le_of_not_lt hp)]
    | _ => first | exact absurd (by decide) hq | simp [Part.same, State.tick]
  · show (s.calls.queue.map Call.tick).length ≤ 16
    rw [List.length_map]; exact h

/-- A count that runs falls by one at each whole unit, and becomes due in place of falling from 1. -/
theorem Countdown.tick_left (unit : Nat) (c : Countdown) : (c.tick unit).left = c.left ∨ (c.tick unit).left = c.left - 1 := by
  unfold Countdown.tick
  split
  · exact .inl rfl
  · split
    · exact .inr rfl
    · exact .inl rfl

end Sys2Proof.Machine
end

