-- ==== Sys2Proof/Tests/Slice0.lean ====
section
/-! SUPPORT. Tests of the model: the checks of well-formed commands, worked values of the manual, and, for each statement
with hypotheses, a state and operands that meet them together, clause by clause, at the ends of their ranges. -/

namespace Sys2Proof.Tests

open Sys2Proof Sys2Proof.Machine

set_option maxRecDepth 20000

/-! ## A small installation to test on -/

theorem of_all {α : Type} {P : α → Prop} [DecidablePred P] {o : Option α} (h : o.all (fun a => decide (P a)) = true) :
    ∀ a, o = some a → P a := by
  intro a e; subst e; simpa using h

/-- A fact of the default record and of every record of a table holds at every number. -/
theorem at_every_number {α : Type} [Inhabited α] {n : Nat} {P : α → Prop} (t : Table α n) (out : P default)
    (h : ∀ x ∈ t.rows, P x) : ∀ i, P (t.get i) := by
  intro i
  simp only [Table.get, List.getD_eq_getElem?_getD]
  cases e : t.rows[i]? with
  | none => exact out
  | some x => exact h x (List.mem_of_getElem? e)

/-- A point record of health NORMAL. -/
def pt (k : Kind) (z : Nat) (w : OutWord) (i : Option Input) (c : Option CallClass := none) : Point :=
  ⟨⟨true, k, z, c⟩, .normal, 0, .none, i, w, none⟩

/-- Points of every kind: in zone 47 the MANUAL 127, the PRESENCE 129 and the DOORs 252, 254 and 255. -/
def sitePoints : Table Point 256 :=
  [(1, pt .smoke 0 (.alarm false) none), (2, pt .heat 47 (.alarm false) none), (127, pt .manual 47 (.alarm false) none),
    (10, pt .call 0 (.call .idle none) none (some .refuge)), (11, pt .call 0 (.call .idle none) none (some .help)),
    (20, pt .lamp 0 (.lamp .on) none), (21, pt .lamp 0 (.lamp .off) none), (30, pt .sign 0 (.sign .exit) none),
    (31, pt .sign 0 (.sign .dark) none), (129, pt .presence 47 .empty none),
    (252, pt .door 47 (.door .free .drop) (some (.door .opened false .locked))),
    (253, pt .door 0 (.door .locked .drop) (some (.door .closed false .locked))),
    (254, pt .door 47 (.door .locked .drop) (some (.door .closed false .locked))),
    (255, pt .door 47 (.door .locked .drop) (some (.door .closed false .locked)))].foldl
    (fun t x => t.put x.1 x.2) State.reset.loops.points

/-- A locked and closed door at point `p`, whose replies have been read. -/
def dr (p : Nat) (egress : Bool) : Door :=
  { Door.fresh ⟨some p, egress, false, false, 5, 30, .off, false⟩ .none with
    contact := some .closed, feedback := some .locked, exitPressed := some false, unread := false }

/-- Door 0 stands alone, doors 30 and 31 are pair 7; exit 11 leads through door 31, sign 63 to exit 11; lamp group 3. -/
def site : State :=
  { State.reset with
    clock := ⟨100, 0, 5, 5⟩
    loops.points := sitePoints
    detection.detectors := (State.reset.detection.detectors.put 1 (some (.created 0))).put 2 (some (.created 1))
    fire.zones := State.reset.fire.zones.put 47 (.fresh ⟨7, 1, 2, false, true⟩)
    doors := ⟨((State.reset.doors.doors.put 0 (dr 253 false)).put 30 (dr 254 false)).put 31 (dr 255 true), false, false,
      4, 4, State.reset.doors.pairs.put 7 ⟨some ⟨30, 31, 10, 60⟩, .settled, .settled, none, false⟩⟩
    routes := ⟨State.reset.routes.exits.put 11 ⟨some ⟨some 31, some 47⟩, false, true⟩,
      State.reset.routes.signs.put 63 ⟨some ⟨30, .exit, [⟨11, .left, [47]⟩], some 15, 7⟩, some 0, some ⟨1, 1⟩, false⟩,
      State.reset.routes.sequences.put 15 ⟨62, 2⟩, State.reset.routes.steps.put 63 ⟨.dark, 20⟩⟩
    lamps := ⟨State.reset.lamps.lamps.put 20 (some (.fresh ⟨3, true⟩)), State.reset.lamps.groups⟩
    link := ⟨[], [], none, none, none, [], false, 0, false⟩
    store := ⟨.empty, true, ⟨[], []⟩, true, none, none, true, true⟩ }

/-- Zone 47 in a fire state, with its timer. -/
def fireAt (f : FireState) (t : Option ZoneTimer) (s : State) : State :=
  { s with fire.zones := s.fire.zones.put 47 { s.zone 47 with fire := f, timer := t } }

/-- Zone 47 CONFIRMED, the release latch holding EVAC and the egress door 31 with it. -/
def burning : State :=
  { fireAt .confirmed none site with
    doors.latchEvac := true
    doors.doors := site.doors.doors.put 31 { dr 255 true with causes := ⟨true, false, false, none, false⟩ }
    routes.exits := State.reset.routes.exits.put 11 ⟨some ⟨some 31, some 47⟩, false, false⟩
    routes.signs := State.reset.routes.signs.put 63
      ⟨some ⟨30, .exit, [⟨11, .left, [47]⟩], some 15, 7⟩, none, none, false⟩ }

/-- A bare part that has nothing to send. -/
def still : State :=
  { State.reset with clock := ⟨100, 0, 5, 5⟩, link := ⟨[], [], none, none, none, [], false, 0, false⟩ }

/-- The part while it receives `bytes`. -/
def rx (bytes : List Byte) : State := { site with link.rx := bytes }

/-- The part while it sends `f`, with frames held. -/
def tx (f : OutFrame) (holder : List Held) : State := { site with link.sending := some f, link.holder := holder }

/-- Loop B with an exchange open at point `p`. -/
def polled (p : Nat) (s : State) : State := { s with loops.scanB := ⟨none, some ⟨p, .empty⟩⟩ }

/-- Loop A with an exchange open at point `p`. -/
def polledA (p : Nat) (s : State) : State := { s with loops.scanA := ⟨none, some ⟨p, .empty⟩⟩ }

/-- The installation with point `p` changed. -/
def withPoint (p : Nat) (f : Point → Point) (s : State) : State := s.putPoint p (f (s.point p))

/-- The installation with door `d` changed. -/
def withDoor (d : Nat) (f : Door → Door) (s : State) : State := s.putDoor d (f (s.door d))

/-- The installation with lamp group 3 in a state. -/
def groupIn (x : TestState) : State :=
  { site with lamps.groups := site.lamps.groups.put 3 { LampGroup.fresh 10800 with state := x } }

/-- The call records of 16 HELP points, all WAITING. -/
def fullQueue : List Call := (List.range 16).map fun n => ⟨n + 240, n + 100, .help, n, .waiting, 0, false⟩

/-- One call record in a state, at the CALL point 10. -/
def calling (x : CallState) : State := { site with calls := ⟨[⟨255, 10, .help, 9, x, 2, false⟩], 1⟩ }

theorem site_alarms_sound : site.alarms.Sound := by simp only [Alarms.Sound, Entry.Proper]; decide

theorem site_calls_sound : site.CallsSound := by unfold State.CallsSound; decide

theorem calling_sound (x : CallState) : (calling x).CallsSound := by
  refine ⟨show 1 ≤ 16 by decide, show 1 ≤ 1 by decide, show 1 ≤ 255 by decide, fun r h => ?_, show [255].Nodup by decide,
    show [10].Nodup by decide, ?_, List.pairwise_singleton _ _⟩
  · cases h with
    | head => exact show 1 ≤ 255 ∧ 255 ≤ 255 ∧ (site.point 10).deferred = none by decide
    | tail _ h => cases h
  · cases h : x.channel <;> simp [calling, h]

theorem site_pairs_two_doors : ∀ q c, (site.pair q).cfg = some c → c.doorX ≠ c.doorY :=
  at_every_number site.doors.pairs (P := fun x => ∀ c, x.cfg = some c → c.doorX ≠ c.doorY) (by intro c h; cases h) (by
    have h : ∀ x ∈ site.doors.pairs.rows, x.cfg.all (fun c => decide (c.doorX ≠ c.doorY)) = true := by decide
    exact fun x hx => of_all (h x hx))

theorem site_routes_sound : site.RoutesSound := by
  refine ⟨by decide, by decide, fun n hn => ?_⟩
  have h : ∀ n < 64, (site.sign n).cfg.all (fun c => decide ((site.sign n).chosen = site.chooseEntry c)) = true := by
    decide
  exact of_all (h n hn)

/-- An image fits where its points, doors and signs pass the three checks, one number after another. -/
theorem image_fits (x : Image) (hp : ∀ p < 256, (x.points.get p).configured = true → isPoint p = true ∧
      (x.points.get p).zone ≤ 47)
    (hd : ∀ d < 32, (x.doors.get d).point.all (fun p => decide ((x.points.get p).configured = true ∧
      (x.points.get p).kind = .door ∧ ∀ e : Nat, e < 32 → (x.doors.get e).point = some p → e = d)) = true)
    (hs : ∀ n < 64, (x.signs.get n).all (fun c : SignCfg => decide ((x.points.get c.point).configured = true ∧
      (x.points.get c.point).kind = .sign ∧
        ∀ m : Nat, m < 64 → (x.signs.get m).all (fun y => decide (y.point = c.point → m = n)) = true)) = true) : x.Fits := by
  refine ⟨hp, fun d h => of_all (hd d h), fun n h c e => ?_⟩
  have := of_all (hs n h) c e
  exact ⟨this.1, this.2.1, fun m hm => of_all (this.2.2 m hm)⟩

theorem site_image_fits : site.image.Fits :=
  image_fits _ (by decide +kernel) (by decide +kernel) (by decide +kernel)

theorem site_words_sound : site.WordsSound := by
  have he : (Image.empty : Image).Fits := by
    have hd : ∀ d < 32, ((Image.empty : Image).doors.get d).point = none := by decide +kernel
    have hs : ∀ n < 64, (Image.empty : Image).signs.get n = none := by decide +kernel
    refine ⟨by decide +kernel, fun d h p e => ?_, fun n h c e => ?_⟩
    · rw [hd d h] at e; cases e
    · rw [hs n h] at e; cases e
  refine ⟨site_image_fits, fun _ => he, fun x e => ?_, by decide, by decide +kernel, by decide +kernel, by decide +kernel,
    by decide +kernel⟩
  cases e

/-! ## Well-formed commands -/

theorem test_wellFormed_refuses_unknown_kind_of_a_request :
    (Instr.unknownKind 0x01 0).wellFormed = false ∧ (Instr.unknownKind 0x1B 0).wellFormed = false ∧
      (Instr.unknownKind 0x39 0).wellFormed = false ∧ (Instr.unknownKind 0x3A 0).wellFormed = true ∧
      (Instr.unknownKind 0x0C 0).wellFormed = true := by decide

theorem test_wellFormed_refuses_points_0_128_256 :
    (∀ p ∈ [0, 128, 256], (Instr.driftChance p).wellFormed = false ∧ (Instr.heatWindowCapture p).wellFormed = false ∧
      (Instr.pointIsolationExpiry p).wellFormed = false) ∧
    ∀ p ∈ [1, 127, 129, 255], (Instr.driftChance p).wellFormed = true ∧ (Instr.heatWindowCapture p).wellFormed = true ∧
      (Instr.pointIsolationExpiry p).wellFormed = true := by decide

theorem test_wellFormed_refuses_zone_48 :
    (Instr.acceptTimerExpiry 48).wellFormed = false ∧ (Instr.investigationTimerExpiry 48).wellFormed = false ∧
      (Instr.zoneIsolationExpiry 48).wellFormed = false ∧ (Instr.zoneIsolationExpiry 47).wellFormed = true := by decide

theorem test_wellFormed_refuses_group_8 :
    (Instr.segmentExpiry 8).wellFormed = false ∧ (Instr.exitTimeExpiry 8).wellFormed = false ∧
      (Instr.retryTimerExpiry 8).wellFormed = false ∧ (Instr.segmentExpiry 7).wellFormed = true := by decide

theorem test_wellFormed_refuses_door_32 :
    (Instr.releaseTimerExpiry 32).wellFormed = false ∧ (Instr.graceTimerExpiry 32).wellFormed = false ∧
      (Instr.closeIgnoreWindowEnd 32).wellFormed = false ∧ (Instr.allowanceTimerExpiry 32).wellFormed = false ∧
      (Instr.quietTimerExpiry 32).wellFormed = false ∧ (Instr.graceTimerExpiry 31).wellFormed = true := by decide

theorem test_wellFormed_refuses_pair_8 :
    (Instr.pendingWaitExpiry 8).wellFormed = false ∧ (Instr.pendingWaitExpiry 7).wellFormed = true := by decide

theorem test_wellFormed_refuses_numbers_0_and_256 :
    (∀ n ∈ [0, 256], (Instr.grantExpiry n).wellFormed = false ∧ (Instr.offerTimerExpiry n).wellFormed = false ∧
      (Instr.limitTimerExpiry n).wellFormed = false) ∧
    ∀ n ∈ [1, 255], (Instr.grantExpiry n).wellFormed = true ∧ (Instr.offerTimerExpiry n).wellFormed = true ∧
      (Instr.limitTimerExpiry n).wellFormed = true := by decide

theorem test_wellFormed_refuses_sign_64 :
    (Instr.sequenceStep 64).wellFormed = false ∧ (Instr.sequenceStep 63).wellFormed = true := by decide

theorem test_wellFormed_refuses_lamp_group_4 :
    (Instr.suspensionLimit 4).wellFormed = false ∧ (Instr.testCompleted 4).wellFormed = false ∧
      (Instr.rechargeExpiry 4).wellFormed = false ∧ (Instr.testCompleted 3).wellFormed = true := by decide

/-! ## Worked values -/

/-- R163: the check value of the nine bytes 31h to 39h is 29B1h. -/
theorem test_crc16_of_the_nine_digits :
    crc16 [0x31, 0x32, 0x33, 0x34, 0x35, 0x36, 0x37, 0x38, 0x39] = 0x29B1#16 := by decide

/-- No row of the table has bits, so no word spells a command, and none reaches the queue. -/
theorem test_no_word_spells_a_command (nbits w : Nat) :
    decodeTableWord nbits w = none ∧ site.withFetchWord nbits w = site := ⟨rfl, rfl⟩

/-- R22: the filtered value is the single reading, the lower of two, the median of three. -/
theorem test_filtered_values :
    filtered (enterReading 200 []) = 200 ∧ filtered (enterReading 40 [200]) = 40 ∧
      filtered (enterReading 90 [40, 200]) = 90 ∧ enterReading 7 [90, 40, 200] = [7, 90, 40] := by decide

/-- R28: the profile values as the rule brings them into range. -/
theorem test_profile_in_range :
    profileInRange ⟨255, 33, 0, 39, 41⟩ = ⟨254, 255, 1, 40, 40⟩ ∧
      profileInRange ⟨60, 45, 21, 256, 0⟩ = ⟨60, 61, 20, 255, 0⟩ := by decide

/-- R64 and R65: the pools of 24 and 40. -/
theorem test_pools :
    (⟨List.replicate 24 ⟨.manualAlarm, .point 1, true, false, 0, 0, 1⟩, false, false, false⟩ : Alarms).room .fire = false ∧
      (⟨List.replicate 39 ⟨.mainsAbsent, .none, true, false, 0, 0, 1⟩, false, false, false⟩ : Alarms).room .fault = true := by
  decide

/-! ## One step each, on the small installation -/

/-- The state a command leads to. -/
def after (i : Instr) (s : State) : State :=
  match exec i s with
  | .next t => t
  | _ => s

/-- R13: 0 minutes are clamped to 1 and the reply is OK_CLAMPED. -/
theorem test_isolate_clamps_minutes :
    let t := after (.isolate 1 (.point 255) (.temporary 0)) site
    (t.point 255).isolation = .temporary ⟨1, 0⟩ ∧ t.replies (.isolate 1 (.point 255) (.temporary 0)) .okClamped .none := by
  unfold State.replies; decide +kernel

/-- R4: the third consecutive miss makes the point MISSING. -/
theorem test_third_miss_is_missing :
    ((after (.replyWindowExpiry .b) ((polled 129 site).putPoint 129 { site.point 129 with misses := 2 })).point 129).health
      = .missing := by decide +kernel

/-- R44: a MANUAL point confirms its zone at once. -/
theorem test_manual_confirms :
    ((after (.pointReply .b (.input (.manual true))) (polled 127 site)).zone 47).fire = .confirmed := by decide +kernel

/-- R52 and R54: the third sample that disagrees makes EVACUATE active. -/
theorem test_third_sample_evacuates :
    (after (.lineInputSample true true) { site with fire.evacIn := ⟨false, 2⟩ }).evacuate = true ∧
      (after (.lineInputSample true true) { site with fire.evacIn := ⟨false, 1⟩ }).evacuate = false := by decide +kernel

/-- R83: SET starts a procedure with the group's exit time. -/
theorem test_set_starts_a_procedure :
    ((after (.setMode 1 7 (some .set)) site).group 7).setting = some ⟨60, 0⟩ := by decide +kernel

/-- R96: the seconds of RELEASE_DOOR are clamped to 1–60. -/
theorem test_release_clamps_seconds :
    ((after (.releaseDoor 1 0 (some 61)) site).door 0).release = some ⟨60, 0⟩ := by decide +kernel

/-- R128: the first grant takes slot 0 and number 1. -/
theorem test_first_grant :
    (after (.grantPassage 1 [47] 901) site).guard.grants.get 0 = some ⟨1, [47], 900, ⟨900, 0⟩, 100⟩ := by decide +kernel

/-- R146 and R150: a blocked exit is not usable, and the sign that named it has no exit. -/
theorem test_blocked_exit_leaves_sign_without_exit :
    let t := after (.blockExit 1 11) site
    (t.exit 11).usable = false ∧ (t.sign 63).chosen = none := by decide +kernel

/-- R159 and its START_TEST: a test runs for the group's length. -/
theorem test_started_test_runs_its_length :
    ((after (.startTest 1 3) site).lampGroup 3).remaining = ⟨3600, 0⟩ := by decide +kernel

/-- R164 and R165: the last byte of a RESTART frame is replied OK with its tag. -/
theorem test_frame_is_served :
    (after (.receiveByte ((frameBytes 0x39 7 []).getLastD 0)) (rx (frameBytes 0x39 7 []).dropLast)).link.sending
      = some (.reply ⟨0x39, 7, .ok, .none⟩) := by decide +kernel

/-! ## Statements: commands, frames, the link -/

theorem witness_StepRunsFrontCommand :
    ({ site with pending := [.getSummary 1, .resound 2] } : State).pending = .getSummary 1 :: [.resound 2] := rfl

theorem witness_IdleStepRunsOwnEventOrTick :
    (State.reset.pending = [] ∧ State.reset.ownEvent = some .transmitFrameEnd) ∧
      (still.pending = [] ∧ still.ownEvent = none) ∧ 0 < 1200 ∧ 0 < 720 ∧ 720 * 1200 - 1 < 720 * 1200 :=
  ⟨⟨rfl, rfl⟩, ⟨rfl, by decide +kernel⟩, by decide⟩

theorem witness_GoodFramesAreExactlyFramesSent :
    (frameBytes 0x01 7 []).head? = some startByte ∧ judgeFrame (frameBytes 0x01 7 []) = .good 6 0x01 7 [] :=
  ⟨rfl, by decide⟩

/-- The receiver at rest, behind a start byte, in a frame, at the last byte of a bad frame with no further start byte, with
one that opens a frame and with one whose frame is whole, and at a gap in each. -/
theorem witness_ReceiverHuntsForStartByte :
    let good : List Byte := frameBytes 0x01 7 []
    let last : Byte := good.getLastD 0
    let busy := fun bytes : List Byte => ({ tx (.reply ⟨0x01, 0, .ok, .none⟩) [] with link.rx := bytes } : State)
    ((rx []).link.rx = [] ∧ (rx [0x5A]).link.rx = [0x5A] ∧
        (2 ≤ (0x02 : Byte).toNat ∧ (0x02 : Byte).toNat ≤ 250) ∧ (2 ≤ (0xFA : Byte).toNat ∧ (0xFA : Byte).toNat ≤ 250) ∧
        (0x01 : Byte).toNat < 2 ∧ 250 < (0xFB : Byte).toNat) ∧
      ((rx [0x5A, 2]).link.rx ++ [1] = 0x5A :: [2, 1] ∧ judgeFrame (0x5A :: [2, 1]) = .incomplete) ∧
      ((rx [0x5A, 2, 1, 2, 3]).link.rx ++ [4] = 0x5A :: [2, 1, 2, 3, 4] ∧ judgeFrame (0x5A :: [2, 1, 2, 3, 4]) = .bad ∧
        (0x5A : Byte) ∉ ([2, 1, 2, 3, 4] : List Byte)) ∧
      ((rx [0x5A, 2, 1, 2, 3]).link.rx ++ [0x5A] = 0x5A :: ([2, 1, 2, 3] ++ 0x5A :: []) ∧
        judgeFrame (0x5A :: ([2, 1, 2, 3] ++ 0x5A :: [])) = .bad ∧ (0x5A : Byte) ∉ ([2, 1, 2, 3] : List Byte) ∧
        judgeFrame (0x5A :: []) = .incomplete) ∧
      ((busy (0x5A :: 4 :: good.dropLast)).link.rx ++ [last] = 0x5A :: ([4] ++ 0x5A :: good.tail) ∧
        judgeFrame (0x5A :: ([4] ++ 0x5A :: good.tail)) = .bad ∧
        judgeFrame (0x5A :: good.tail) = .good 6 0x01 7 [] ∧ (0x5A : Byte) ∉ (0x5A :: good.tail).drop 6 ∧
        (busy []).link.free = false ∧ (busy []).link.holder.length < 4) ∧
      (0 < (rx [0x5A, 2, 1]).link.rx.count 0x5A ∧
        ∀ x ∈ [[0x5A, 2, 1], [2, 1], [1], []], x <:+ (rx [0x5A, 2, 1]).link.rx → x.head? = some 0x5A →
          judgeFrame x = .incomplete) ∧
      (busy (0x5A :: 250 :: good)).link.rx = 0x5A :: ([250] ++ 0x5A :: good.tail) ∧
      judgeFrame (0x5A :: ([250] ++ 0x5A :: good.tail)) = .incomplete := by
  refine ⟨by decide, by decide, by decide, by decide, by decide +kernel, ⟨by decide, ?_⟩, by decide, by decide⟩
  intro x hx _ he; revert he; revert x; decide

/-- A frame of an unknown kind, one whose body its kind does not take, and one that is served. -/
theorem witness_LastByteServesTheFrame :
    (rx (frameBytes 0x3A 7 []).dropLast).link.free = true ∧ (rx (frameBytes 0x3A 7 []).dropLast).link.holder = [] ∧
      ([] : List Byte).length ≤ 248 ∧
      (isRequestCode 0x3A = false ∧
        (rx (frameBytes 0x3A 7 []).dropLast).link.rx ++ [(frameBytes 0x3A 7 []).getLastD 0] = frameBytes 0x3A 7 []) ∧
      (isRequestCode 0x01 = true ∧ readRequest 0x01 7 [0] = none ∧
        (rx (frameBytes 0x01 7 [0]).dropLast).link.rx ++ [(frameBytes 0x01 7 [0]).getLastD 0] = frameBytes 0x01 7 [0]) ∧
      (isRequestCode 0x39 = true ∧ readRequest 0x39 7 [] = some (.restart 7) ∧
        (rx (frameBytes 0x39 7 []).dropLast).link.rx ++ [(frameBytes 0x39 7 []).getLastD 0] = frameBytes 0x39 7 []) := by
  refine ⟨rfl, rfl, by decide, ?_, ⟨rfl, rfl, ?_⟩, rfl, rfl, ?_⟩ <;> decide

theorem witness_RequestsAreAnsweredOnceOrHeld :
    requestCode (.getSummary 1) = some 0x01 ∧ site.link.free = true ∧
      (tx (.reply ⟨0x01, 0, .ok, .none⟩) []).link.free = false ∧
      (tx (.reply ⟨0x01, 0, .ok, .none⟩) (List.replicate 3 (.request (.resound 1)))).link.holder.length < 4 ∧
      ¬ (tx (.reply ⟨0x01, 0, .ok, .none⟩) (List.replicate 4 (.request (.resound 1)))).link.holder.length < 4 :=
  ⟨rfl, rfl, rfl, by decide, by decide⟩

/-- A report sent, and a reply sent with a request held, a frame of an unknown kind, one whose body its kind does not take,
and one that carries a RESTART. -/
theorem witness_TransmitPathChoosesReplyThenOldestReport :
    State.reset.link.sending = some (.report ⟨0, .started false false false⟩ false) ∧
      (OutFrame.report ⟨0, .started false false false⟩ false).endsInStart = false ∧ State.reset.link.startDue = false ∧
      ((OutFrame.report ⟨0, .started false false false⟩ false).isReply = true → State.reset.link.holder = []) ∧
      (let s := tx (.reply ⟨0x01, 0, .ok, .none⟩) [.request (.resound 1), .frame 0x3A 0 []]
      s.link.sending = some (.reply ⟨0x01, 0, .ok, .none⟩) ∧ (OutFrame.reply ⟨0x01, 0, .ok, .none⟩).endsInStart = false ∧
        s.link.startDue = false ∧ (OutFrame.reply ⟨0x01, 0, .ok, .none⟩).isReply = true ∧ s.link.reply = none ∧
        s.link.heldReply = none ∧ s.link.holder = .request (.resound 1) :: [.frame 0x3A 0 []] ∧
        requestCode (.resound 1) = some 0x25) ∧
      (let held := fun h : Held => tx (.reply ⟨0x01, 0, .ok, .none⟩) [h]
      (∀ h, (held h).link.sending = some (.reply ⟨0x01, 0, .ok, .none⟩) ∧ (held h).link.startDue = false ∧
          (held h).link.reply = none ∧ (held h).link.heldReply = none ∧ (held h).link.holder = h :: []) ∧
        isRequestCode 0x3A = false ∧ (isRequestCode 0x01 = true ∧ readRequest 0x01 7 [0] = none) ∧
        isRequestCode 0x39 = true ∧ readRequest 0x39 7 [] = some (.restart 7)) := by
  refine ⟨rfl, rfl, rfl, fun _ => rfl, ⟨rfl, rfl, rfl, rfl, rfl, rfl, rfl, rfl⟩, fun _ => ⟨rfl, rfl, rfl, rfl, rfl⟩, rfl,
    ⟨rfl, rfl⟩, rfl, rfl⟩

/-- GET_ZONE of zone 48 is refused NO_OBJECT. -/
theorem witness_RefusedRequestChangesNothing :
    requestCode (.getZone 1 48) = some 0x03 ∧ site.link.free = true ∧
      ∃ t, exec (.getZone 1 48) site = .next t ∧ t.replies (.getZone 1 48) .noObject .none ∧
        Status.noObject ≠ .ok ∧ Status.noObject ≠ .okClamped ∧ Status.noObject ≠ .pending :=
  ⟨rfl, rfl, _, rfl, rfl, by decide, by decide, by decide⟩

theorem witness_QueriesAnswerWhatTheyName :
    site.link.free = true ∧ (site.door 31).cfg.point.isSome = true ∧ (site.pair 7).cfg.isSome = true ∧
      (site.sign 63).cfg.isSome = true ∧ (site.pair 8).cfg = none ∧ (site.sign 64).cfg = none ∧
      isPoint 255 = true ∧ isPoint 128 = false := by decide

/-! ## Statements: the store and the start -/

theorem witness_RestartStartsAfterItsReply :
    site.link.free = true ∧ (tx (.reply ⟨0x39, 7, .ok, .none⟩) []).link.sending = some (.reply ⟨0x39, 7, .ok, .none⟩) ∧
      ({ site with link.startDue := true } : State).link.startDue = true ∧
      ({ site with link.startDue := true } : State).pending = [] := ⟨rfl, rfl, rfl, rfl⟩

/-- An image that binds doors and signs as it may, saved and loaded. -/
theorem witness_StartLeavesEveryRecordAtRest :
    let s : State := { site with store.image := site.image }
    s.store.found.loadedImage.Fits ∧ (s.store.found.loadedImage.doors.get 31).point = some 255 ∧
      (s.store.found.loadedImage.signs.get 63).map (·.point) = some 30 ∧
      (∀ d < 32, (s.store.found.loadedImage.doors.get d).point ≠ some 252) :=
  ⟨site_image_fits, by decide, by decide, by decide⟩

theorem witness_SaveCopiesConfigurationAndEndsReported :
    (site.link.free = true ∧ site.evacuate = false ∧ site.store.saving = none) ∧
      ({ site with store.saving := some .empty } : State).store.saving = some .empty ∧
      ({ site with store.saving := some .empty } : State).roomFor 2 := by unfold State.roomFor; decide

/-- Refused in an evacuation and during a save, from both ends of each range of codes; and a BUSY that the save does not
make: START_TEST beside another group's test. -/
theorem witness_EvacuationAndSaveRefuseConfiguration :
    let saving : State := { site with store.saving := some .empty }
    (requestCode (.cfgPoint 1 255 none) = some 0x10 ∧ burning.link.free = true ∧ burning.evacuate = true) ∧
      (requestCode (.saveSettings 1) = some 0x1B ∧ saving.link.free = true ∧ saving.evacuate = false ∧
        saving.store.saving.isSome = true) ∧
      requestCode (.restart 1) = some 0x39 ∧
      ({ site with doors.latchStartUp := true } : State).latched = true ∧
      (saving.noTarget (.zone 47) = false ∧ saving.noTarget (.point 255) = false ∧
        (saving.putZone 47 { saving.zone 47 with isolation := .standing }).isolationOf (.zone 47) = .standing) ∧
      (let s : State := { groupIn .running with store.saving := some .empty }
      requestCode (.startTest 1 0) = some 0x34 ∧ s.link.free = true ∧
        ∃ t, exec (.startTest 1 0) s = .next t ∧ t.replies (.startTest 1 0) .busy .none) := by
  refine ⟨by decide, by decide, rfl, by decide, by decide, rfl, rfl, _, rfl, rfl⟩

/-! ## Statements: field loops and the point table -/

/-- Point 250 is made, of three kinds, and refused for a bad zone and for the 41st CALL point; point 31 is unmade, and so are
the SIGN 31 under a STANDING isolation and the CALL 10 with a press; a bound point and one that burns are not. -/
theorem witness_CfgPointMakesAndUnmakesRecords :
    let bound := fun (s : State) (p : Nat) => (∃ d < 32, (s.door d).cfg.point = some p) ∨ (s.lamp p).isSome = true ∨
      (∃ n < 64, ((s.sign n).cfg.map (·.point)) = some p) ∨ ∃ r ∈ s.calls.queue, r.point = p
    let burns := fun (s : State) (p : Nat) => s.inAlarm p = true ∨ s.isLatched p = true
    let many : Table Point 256 :=
      (List.range 38).foldl (fun t n => t.put (n + 60) (pt .call 0 (.call .idle none) none (some .help))) site.loops.points
    let full : State := { site with loops.points := many }
    let away := withPoint 31 (fun x => { x with isolation := .standing }) site
    let pressed := withPoint 10 (fun x => { x with deferred := some 9 }) site
    (site.link.free = true ∧ site.cfgRefusal = none ∧ isPoint 250 = true ∧ isPoint 31 = true ∧ isPoint 128 = false) ∧
      ((site.point 250).cfg.configured = false ∧ 47 ≤ 47 ∧ 47 < 48 ∧
        (Kind.call = .call → (some CallClass.help).isSome = true) ∧ site.countKind .call < 40 ∧
        site.countKind .lamp < 96 ∧ site.countKind .smoke < 254 ∧ (site.point 250).cfg = .unused) ∧
      ((site.point 31).cfg.configured = true ∧ ¬ bound site 31 ∧ ¬ burns site 31 ∧ site.alarms.Sound ∧ site.roomFor 48) ∧
      ((away.point 31).cfg.configured = true ∧ ¬ bound away 31 ∧ ¬ burns away 31 ∧
        (away.point 31).isolation = .standing) ∧
      ((pressed.point 10).cfg.configured = true ∧ ¬ bound pressed 10 ∧ ¬ burns pressed 10 ∧
        (pressed.point 10).deferred = some 9) ∧
      (full.isKind 250 .call = false ∧ 40 ≤ full.countKind .call) ∧
      (bound site 255 ∧ (site.point 255).cfg.configured = true ∧ Kind.smoke ≠ (site.point 255).cfg.kind) ∧
      burns (site.putDetector 2 (some { Detector.created 1 with state := .alarm })) 2 := by
  refine ⟨by decide, by decide +kernel, ⟨by decide, by decide, by decide, site_alarms_sound, show 0 + 48 ≤ 96 by decide⟩,
    by decide, by decide, by decide +kernel, by decide, by decide⟩

theorem witness_ScanPollsLowestAddressFirst :
    (site.scanner .a).exchange = none ∧ site.nextPoint .a 0 = some 1 ∧ site.nextPoint .b 0 = some 129 ∧
      State.reset.nextPoint .b 0 = none ∧ ((polled 255 site).scanner .b).exchange.isSome = true := by decide

/-- Point 255 answers as its kind, as another kind and with no code; it misses with no miss before it and with two; point 129,
MISSING, answers again. -/
theorem witness_ExchangeMovesHealthAndMisses :
    let late := (polled 255 site).putPoint 255 { site.point 255 with misses := 2 }
    let lost := withPoint 129 (fun x => { x with health := .missing, misses := 3 }) (polled 129 site)
    (((polled 255 site).scanner .b).exchange = some ⟨255, .empty⟩ ∧ 255 < 256 ∧
        ((polled 255 site).point 255).cfg.configured = true) ∧
      (Input.door .opened false .locked).kind = ((polled 255 site).point 255).cfg.kind ∧
      (∀ i, Answer.foreign = .input i → i.kind ≠ ((polled 255 site).point 255).cfg.kind) ∧
      (∀ i, Answer.input (.call true) = .input i → i.kind ≠ ((polled 255 site).point 255).cfg.kind) ∧
      ((polled 255 site).point 255).misses < 2 ∧ (late.scanner .b).exchange = some ⟨255, .empty⟩ ∧
      (late.point 255).cfg.configured = true ∧ 2 ≤ (late.point 255).misses ∧
      (Health.missing ≠ (late.point 255).health ∧ Health.wrongKind ≠ (late.point 255).health ∧
        late.link.reports.length + 1 ≤ 96) ∧
      (lost.scanner .b).exchange = some ⟨129, .empty⟩ ∧ (Input.presence true).kind = (lost.point 129).cfg.kind ∧
      Health.normal ≠ (lost.point 129).health ∧
      ((lost.putPoint 129 { lost.point 129 with lastInput := some (.presence true) }).deliver 129
        (.presence true)).link.reports.length + 1 ≤ 96 := by
  refine ⟨by decide, by decide, ?_, ?_, by decide, by decide, by decide, by decide, by decide, by decide, by decide,
    by decide, by decide⟩
  · intro i h; cases h
  · intro i h; cases h; decide

/-- The point 255 and the zone 47, free, under TEMPORARY and under STANDING; in zone 47 the HEAT point 2 and the MANUAL point
127, the first with a run in its detector, and the PRESENCE point 129, which a zone leaves alone. -/
theorem witness_IsolationBeginsAndEnds :
    let point := fun x : Isolation => site.putPoint 255 { site.point 255 with isolation := x }
    let zone := fun x : Isolation => site.putZone 47 { site.zone 47 with isolation := x }
    let ready := fun (s : State) (target : Target) => s.link.free = true ∧ s.noTarget target = false ∧
      s.burning target = false ∧ s.store.saving = none
    let run : Detector := { Detector.created 1 with state := .confirming, k := 2, history := [60, 60, 60], w := some 60 }
    let fires := fun (q : Nat) => isPoint q = true ∧ (site.point q).cfg.configured = true ∧ (site.point q).cfg.zone = 47 ∧
      ((site.point q).cfg.kind = .smoke ∨ (site.point q).cfg.kind = .heat ∨ (site.point q).cfg.kind = .manual)
    (site.alarms.Sound ∧ site.roomFor 1 ∧ (point .standing).alarms = site.alarms ∧ (point .standing).link = site.link ∧
        (zone .standing).alarms = site.alarms ∧ (zone .standing).link = site.link) ∧
      (ready site (.point 255) ∧ site.isolationOf (.point 255) ≠ .standing ∧ site.effective 255 = false) ∧
      (ready site (.zone 47) ∧ site.isolationOf (.zone 47) ≠ .standing ∧ (∀ q ∈ [2, 127], fires q ∧ site.effective q = false) ∧
        ¬ fires 129 ∧ (site.putDetector 2 (some run)).burning (.zone 47) = false ∧
        (site.putDetector 2 (some run)).detector 2 = some run) ∧
      (ready (point .standing) (.point 255) ∧ ready (zone .standing) (.zone 47)) ∧
      (site.noTarget (.point 255) = false ∧ site.noTarget (.zone 47) = false) ∧
      ((point (.temporary ⟨720, 0⟩)).roomFor 1 ∧ (point (.temporary ⟨720, 0⟩)).link.free = true ∧
        ((point (.temporary ⟨720, 0⟩)).point 255).isolation = .temporary ⟨720, 0⟩) ∧
      ((zone (.temporary ⟨1, 1200⟩)).roomFor 1 ∧ (zone (.temporary ⟨1, 1200⟩)).link.free = true ∧
        ((zone (.temporary ⟨1, 1200⟩)).zone 47).isolation = .temporary ⟨1, 1200⟩) ∧
      (point .standing).isolationOf (.point 255) = .standing ∧ (zone .standing).isolationOf (.zone 47) = .standing ∧
      (zone .standing).store.saving = none := by
  refine ⟨⟨site_alarms_sound, show 0 + 1 ≤ 96 by decide, rfl, rfl, rfl, rfl⟩, by decide, by decide, by decide, ?_⟩
  unfold State.roomFor; decide

theorem witness_StandingIsolationWaitsForItsWrite :
    let writing : State := { site with store.areaWrite := some ⟨[255], [47]⟩, link.heldReply := some ⟨0x20, 1, .ok, .none⟩ }
    (site.link.free = true ∧ site.noTarget (.point 255) = false ∧ site.burning (.point 255) = false ∧
        site.noTarget (.zone 47) = false ∧ site.burning (.zone 47) = false ∧ site.store.saving = none) ∧
      writing.store.areaWrite = some ⟨[255], [47]⟩ ∧ writing.link.heldReply = some ⟨0x20, 1, .ok, .none⟩ ∧
      writing.link.reply = none ∧ ∀ r, writing.link.sending ≠ some (.reply r) := by
  refine ⟨by decide, rfl, rfl, rfl, fun r h => ?_⟩
  cases h

/-! ## Statements: detection -/

theorem witness_ReferenceSetsStepsAndStaysInRange :
    (([90, 40, 200] : List Nat).length ≤ 3 ∧ enterReading 7 [] = [7] ∧ enterReading 7 [9] = [7, 9] ∧
        enterReading 7 [9, 8] = [7, 9, 8]) ∧
      (let d := fun (r : Option Nat) (n : Nat) => { Detector.created 7 with ref := r, drift := n }
      ((d none 0).drift < 120 ∧ ∀ r, (d none 0).ref = some r → 256 ≤ r ∧ r ≤ 1152) ∧
        ((d (some 1152) 119).drift < 120 ∧ (d (some 1152) 119).state = .quiet ∧
          (∀ r, (d (some 1152) 119).ref = some r → 256 ≤ r ∧ r ≤ 1152) ∧ 71 * 16 ≤ 1152 + 128 ∧ 1152 ≤ 71 * 16 + 128 ∧
          71 * 16 < 1152 ∧ ¬ 1152 + 128 < 80 * 16 ∧ 1152 < 80 * 16 ∧ 1152 + 128 < 81 * 16)) := by
  refine ⟨by decide, ⟨by decide, ?_⟩, by decide, rfl, ?_, by decide⟩
  · intro r h; cases h
  · intro r h; cases h; decide

/-- The SMOKE point 1, its dirty flag at rest and due anew after an isolation, and the HEAT point 2 at both ends of its
window. -/
theorem witness_SamplesMoveDetectors :
    let due : Detector := { Detector.created 0 with ref := some 1152, dirty := true, dirtyDue := true }
    let clean : Detector := { Detector.created 0 with ref := some 1088, dirty := true }
    (((polledA 1 site).scanner .a).exchange = some ⟨1, .empty⟩ ∧ 1 < 256 ∧ (site.point 1).cfg.configured = true ∧
        site.effective 1 = false ∧ site.detector 1 = some (.created 0) ∧ (site.point 1).cfg.kind = .smoke ∧
        site.alarms.otherCount < 40 ∧ site.alarms.Sound) ∧
      ((due.stage2 72).dirty = true ∧ due.dirtyDue = true ∧ (clean.stage2 68).dirty = false ∧ clean.dirty = true) ∧
      (((polledA 2 site).scanner .a).exchange = some ⟨2, .empty⟩ ∧ (site.point 2).cfg.configured = true ∧
        site.effective 2 = false ∧ site.detector 2 = some (.created 1) ∧ (site.point 2).cfg.kind = .heat ∧
        (Detector.created 1).window < 60 ∧ ({ Detector.created 1 with window := 59 } : Detector).window < 60) := by
  refine ⟨⟨by decide, by decide, by decide, by decide, by decide, by decide, by decide, site_alarms_sound⟩, by decide,
    by decide⟩

/-- The detector 255 at both counted events; the HEAT point 2 with a run that its third miss, an answer of another kind and
an isolation break, and under an isolation. -/
theorem witness_CountedEventsAndStreamBreaks :
    let d : Detector := { Detector.created 7 with
      drift := 119, ref := some 1152, dirty := true, lastF := some 71, window := 59, lastC := some 255 }
    let s := site.putDetector 255 (some d)
    let run : Detector := { Detector.created 1 with state := .confirming, k := 2, history := [60, 60, 60], w := some 60 }
    let r := (withPoint 2 (fun x => { x with misses := 2 }) (polledA 2 site)).putDetector 2 (some run)
    (255 < 256 ∧ s.detector 255 = some d ∧ d.drift = 119 ∧ d.lastF = some 71 ∧ d.ref = some 1152 ∧ d.window = 59 ∧
        d.lastC = some 255 ∧ dirtyAfter d.dirty (stepRef d.state 71 1152) = d.dirty) ∧
      (r.detector 2 = some run ∧ (r.point 2).cfg.configured = true ∧ (r.point 2).cfg.kind = .heat ∧
        (r.scanner .a).exchange = some ⟨2, .empty⟩ ∧ (r.point 2).health ≠ .missing ∧ 2 ≤ (r.point 2).misses ∧
        (r.point 2).health ≠ .wrongKind ∧ r.link.free = true ∧ isPoint 2 = true ∧ r.effective 2 = false ∧
        run.state ≠ .alarm) ∧
      (∀ i, Answer.foreign = .input i → i.kind ≠ (r.point 2).cfg.kind) ∧
      (withPoint 2 (fun x => { x with isolation := .standing }) r).effective 2 = true := by
  refine ⟨by decide, by decide, fun i h => ?_, by decide⟩
  cases h

/-- Profile 7 pending and held by no detector, and profile 0 held by the PRE_ALARM of one; the last exchange of loop B's
scan and one that is not the last. -/
theorem witness_ProfilesChangeAtEndOfScan :
    site.link.free = true ∧
      (((polled 255 site).scanner .b).exchange = some ⟨255, .empty⟩ ∧ (polled 255 site).nextPoint .b 255 = none ∧
        ((polled 129 site).scanner .b).exchange = some ⟨129, .empty⟩ ∧ (polled 129 site).nextPoint .b 129 ≠ none) ∧
      (let s := still.putDetector 255 (some { Detector.created 0 with state := .preAlarm })
      let u := (s.putProfile 7 ⟨profileDelivery, ⟨33, 34, 1, 40, 0⟩, true⟩).putProfile 0
        ⟨profileDelivery, ⟨254, 255, 20, 255, 40⟩, true⟩
      (u.scanner .b).exchange = none ∧ u.nextPoint .b 0 = none ∧ (u.profile 7).flag = true ∧ (u.profile 0).flag = true ∧
        u.detector 255 = some { Detector.created 0 with state := .preAlarm } ∧ u.link.reports.length + 8 ≤ 96) := by
  decide

/-! ## Statements: zones and evacuation -/

theorem witness_FireRequestsAndTimersMoveTheirZone :
    let first := fireAt .first (some (.accept ⟨30, 0⟩)) site
    let looked := fireAt .investigate (some (.investigation ⟨180, 0⟩)) site
    47 < 48 ∧ (first.link.free = true ∧ (first.zone 47).fire = .first ∧ (first.zone 47).timer = some (.accept ⟨30, 0⟩) ∧
        first.roomFor 1 ∧ first.evacuate = false) ∧
      (looked.link.free = true ∧ (looked.zone 47).fire = .investigate ∧
        (looked.zone 47).timer = some (.investigation ⟨180, 0⟩) ∧ looked.evacuate = false) ∧
      (∀ c, ¬ ((looked.zone 47).fire = .first ∧ (looked.zone 47).timer = some (.accept c))) := by
  refine ⟨by decide, ?_, by decide, fun c h => ?_⟩
  · unfold State.roomFor; decide
  · exact absurd h.1 (by decide)

/-- The MANUAL point 127 and the HEAT point 2, of zone 47, which the alarm finds NORMAL, in INVESTIGATE and CONFIRMED; its
eleventh confirming sample takes 2 into ALARM. -/
theorem witness_AlarmsMoveTheirZone :
    let s := polled 127 site
    let run : Detector := { Detector.created 1 with state := .confirming, k := 19, history := [255, 255] }
    let h := (polledA 2 site).putDetector 2 (some run)
    ((s.scanner .b).exchange = some ⟨127, .empty⟩ ∧ 127 < 256 ∧ (s.point 127).cfg.configured = true ∧
        (s.point 127).cfg.kind = .manual ∧ s.effective 127 = false ∧ (s.point 127).cfg.zone < 48 ∧
        127 ∉ (s.zone (s.point 127).cfg.zone).latched ∧ (∀ d < 32, (s.door d).cfg.point ≠ some 127) ∧
        (∀ n < 64, ∀ c, (s.sign n).cfg = some c → c.point ≠ 127) ∧ (∀ r ∈ s.calls.queue, r.point ≠ 127) ∧
        s.alarms.fireCount < 24) ∧
      ((h.scanner .a).exchange = some ⟨2, .empty⟩ ∧ (h.point 2).cfg.configured = true ∧ h.effective 2 = false ∧
        (h.point 2).cfg.zone = 47 ∧ (Input.heat 255).kind = (h.point 2).cfg.kind ∧ h.detector 2 = some run ∧
        run.state ≠ .alarm ∧ h.roomFor 5) ∧
      ((after (.pointReply .a (.input (.heat 255))) h).detector 2).any (fun n => n.state == .alarm) = true ∧
      ((h.zone 47).fire = .normal ∧ (h.zone 47).cfg.investigation = true ∧ h.zoneMode 47 ≠ .set ∧
        (h.zone 47).cfg.coincidence = false ∧ ((fireAt .investigate none h).zone 47).fire = .investigate ∧
        ((fireAt .confirmed none h).zone 47).fire = .confirmed) := by
  have h : ∀ n < 64, (site.sign n).cfg.all (fun c => decide (c.point ≠ 127)) = true := by decide
  refine ⟨⟨by decide, by decide, by decide, by decide, by decide, by decide, by decide, by decide,
    fun n hn => of_all (h n hn), by decide, by decide⟩, ?_, by decide +kernel, by decide⟩
  unfold State.roomFor; decide

theorem witness_SilenceAndResoundMoveTheFlagAlone :
    burning.link.free = true ∧ burning.evacuate = true ∧ burning.fire.silenced = false ∧ burning.link.reports.length + 1 ≤ 96 ∧
      site.link.free = true ∧ site.evacuate = false := by decide

theorem witness_FireResetClearsFire :
    let s : State := { burning with fire.silenced := true }
    s.link.free = true ∧ s.sounderOut = false ∧ (s.zone 47).fire ≠ .normal ∧
      (∃ z < 48, (s.zone z).fire ≠ .normal) := by decide

theorem witness_LinesAreFilteredAndActOn :
    let s : State := { site with fire.evacIn := ⟨false, 2⟩ }
    let u : State := { site with fire.evacIn := ⟨true, 0⟩, fire.mainsOk := ⟨false, 2⟩ }
    (s.fire.evacIn.count ≤ 2 ∧ s.fire.mainsOk.count ≤ 2 ∧ s.alarms.Sound ∧ s.fire.evacIn.level ≠ true ∧
        s.fire.mainsOk.level ≠ false ∧ s.alarms.fireCount < 24 ∧ s.alarms.otherCount < 40 ∧
        s.fire.evacIn.level = false ∧ s.fire.mainsOk.level = true) ∧
      u.fire.evacIn.level ≠ false ∧ u.fire.mainsOk.level ≠ true ∧ u.fire.mainsOk.count ≤ 2 ∧ u.isKind 20 .lamp = true :=
  ⟨⟨by decide, by decide, site_alarms_sound, by decide, by decide, by decide, by decide, rfl, rfl⟩, by decide⟩

/-- Zone 47 in its group, in NORMAL and in FIRST, and into group 0, refused in FIRST and with group 0 SETTING; the SIGN 31 and the LAMP 21 change their zone, 31 under a STANDING isolation too;
the CALL 10 changes its class; 31 becomes a SMOKE point. -/
theorem witness_CfgZoneAndCfgPointChangeRecords :
    let away := withPoint 31 (fun x => { x with isolation := .standing }) site
    (site.link.free = true ∧ site.cfgRefusal = none ∧ 47 < 48 ∧ 7 ≤ 7 ∧ (site.zone 47).fire = .normal ∧
        7 = (site.zone 47).cfg.group ∧ 0 ≠ (site.zone 47).cfg.group ∧ (site.group 0).setting = none ∧
        (site.group (site.zone 47).cfg.group).setting = none) ∧
      (∀ p ∈ [31, 21, 10, 255], isPoint p = true ∧ (site.point p).cfg.configured = true ∧ site.inAlarm p = false ∧
        site.isLatched p = false) ∧
      site.alarms.Sound ∧ site.roomFor 48 ∧
      ((site.point 31).cfg.kind = .sign ∧ 47 ≠ (site.point 31).cfg.zone ∧ (site.point 21).cfg.kind = .lamp ∧
        site.doorOf 255 = some 31 ∧ 0 ≠ (site.point 255).cfg.zone ∧ (away.point 31).isolation = .standing) ∧
      ((site.point 10).cfg.kind = .call ∧ some CallClass.help ≠ (site.point 10).cfg.cls ∧
        (∀ q < 256, (site.point q).deferred = none)) ∧
      (Kind.smoke ≠ (site.point 31).cfg.kind ∧ site.countKind .smoke < kindLimit .smoke ∧ site.doorOf 31 = none ∧
        site.lamp 31 = none ∧ site.signOf 31 = none ∧ ∀ r ∈ site.calls.queue, r.point ≠ 31) ∧
      (let first := fireAt .first none site
      first.link.free = true ∧ first.cfgRefusal = none ∧ (first.zone 47).fire ≠ .normal ∧ (first.zone 47).cfg.group = 7 ∧
        (first.zone 47).cfg.coincidence = false ∧ (first.zone 47).cfg.investigation = true) ∧
      (let setting := site.putGroup 0 { site.group 0 with setting := some ⟨60, 0⟩ }
      setting.link.free = true ∧ setting.cfgRefusal = none ∧ 0 ≠ (setting.zone 47).cfg.group ∧
        (setting.group 0).setting.isSome = true ∧ 48 ≤ 48 ∧ 7 < 8) := by
  refine ⟨by decide, by decide, site_alarms_sound, show 0 + 48 ≤ 96 by decide, by decide, by decide +kernel,
    by decide +kernel, by decide, by decide⟩

/-! ## Statements: the alarm list and the regimes -/

theorem witness_RaiseAndEndMoveOneEntry :
    site.alarms.Sound ∧ site.alarms.entries[0]? = some settingsFaultAtStart ∧
      settingsFaultAtStart.identity = (.settingsFault, .none) ∧
      (∀ e ∈ site.alarms.entries, e.identity ≠ (.evacInput, .none)) ∧ site.alarms.fireCount < 24 ∧
      (∀ e ∈ site.alarms.entries, e.identity ≠ (.lockFault, .door 31)) ∧ site.alarms.otherCount < 40 :=
  ⟨site_alarms_sound, rfl, rfl, by decide, by decide, by decide, by decide⟩

theorem witness_AlarmsAreAcceptedAndPaged :
    site.link.free = true ∧ (∃ e ∈ site.alarms.entries, e.identity = (.settingsFault, .none)) ∧
      (∀ e ∈ site.alarms.entries, e.identity ≠ (.pointMissing, .point 255)) ∧ site.sortFits .detectorAlarm (.point 2) = true ∧
      (∀ e ∈ site.alarms.entries, e.identity ≠ (.detectorAlarm, .point 255)) ∧
      site.sortFits .detectorAlarm (.point 255) = false ∧ 7 ≤ 7 ∧ 7 < 8 := by decide

theorem witness_SetModeAppliesItsTarget :
    (site.link.free = true ∧ 7 < 8 ∧ site.evacuate = false ∧ site.cfgRefusal = none) ∧
      ((site.group 7).setting = none ∧ (site.group 7).mode ≠ .set ∧
        ∀ z < 48, (site.zone z).cfg.group = 7 → (site.zone z).fire = .normal) ∧
      (let s := site.putGroup 7 { Group.fresh ⟨180, .set⟩ with setting := some ⟨180, 0⟩ }
      (s.group 7).setting.isSome = true ∧ s.evacuate = false) ∧
      (let s := site.putGroup 7 (.fresh ⟨10, .set⟩)
      (s.group 7).setting = none ∧ (s.group 7).mode = .set) ∧
      (let s := fireAt .first none site
      (s.group 7).setting = none ∧ (s.group 7).mode ≠ .set ∧
        ¬ ∀ z < 48, (s.zone z).cfg.group = 7 → (s.zone z).fire = .normal) ∧
      burning.link.free = true ∧ burning.evacuate = true := by decide

theorem witness_SegmentsAreStagedAndTaken :
    let x : Segment := ⟨.set, 1440, true⟩
    let y : Segment := ⟨.staff, 1, false⟩
    let runs := fun (c : Segment) (n : Option Segment) =>
      site.putGroup 7 { site.group 7 with current := some ⟨c, ⟨1, 20⟩⟩, staged := n }
    (7 < 8 ∧ site.roomFor 1 ∧ site.link.free = true ∧ (site.group 7).current = none ∧ site.evacuate = false) ∧
      (burning.link.free = true ∧ burning.evacuate = true ∧ burning.roomFor 1) ∧
      (((runs x (some y)).group 7).current = some ⟨x, ⟨1, 20⟩⟩ ∧ ((runs x (some y)).group 7).staged = some y ∧
        (runs x (some y)).roomFor 1) ∧
      (((runs x none).group 7).current = some ⟨x, ⟨1, 20⟩⟩ ∧ ((runs x none).group 7).staged = none ∧ x.repeats = true) ∧
      (((runs y none).group 7).current = some ⟨y, ⟨1, 20⟩⟩ ∧ ((runs y none).group 7).staged = none ∧ y.repeats = false) ∧
      (x.target = .set ∧ y.target ≠ .set ∧ (site.group 7).setting = none ∧ (site.group 7).mode ≠ .set ∧
        (∀ z < 48, (site.zone z).cfg.group = 7 → (site.zone z).fire = .normal) ∧
        (¬ ∀ z < 48, ((fireAt .first none site).zone z).cfg.group = 7 → ((fireAt .first none site).zone z).fire = .normal) ∧
        ((site.putGroup 7 (.fresh ⟨10, .set⟩)).group 7).mode = .set) := by
  unfold State.roomFor; decide

theorem witness_SettingEndsAtExitTime :
    let s := site.putGroup 7 { site.group 7 with setting := some ⟨1, 20⟩ }
    let o := withDoor 31 (fun x => { x with contact := some .opened }) s
    let r := fun m : Mode => site.putGroup 7 { site.group 7 with mode := m, retry := some ⟨1, 20⟩ }
    (7 < 8 ∧ (s.group 7).setting.isSome = true ∧ ¬ ∃ d < 32, (s.door d).configured = true ∧ s.doorGroup d = 7 ∧
        (s.door d).contact = some .opened ∧ s.doorIsolated d = false) ∧
      ((o.group 7).setting.isSome = true ∧ ∃ d < 32, (o.door d).configured = true ∧ o.doorGroup d = 7 ∧
        (o.door d).contact = some .opened ∧ o.doorIsolated d = false) ∧
      (((r .staff).group 7).retry.isSome = true ∧ (r .staff).evacuate = false ∧ ((r .staff).group 7).setting = none ∧
        ((r .staff).group 7).mode ≠ .set ∧ ((r .set).group 7).mode = .set ∧
        ∀ z < 48, ((r .staff).zone z).cfg.group = 7 → ((r .staff).zone z).fire = .normal) ∧
      (let f := fireAt .investigate none (r .staff)
      (f.group 7).retry.isSome = true ∧ f.evacuate = false ∧
        ¬ ∀ z < 48, (f.zone z).cfg.group = 7 → (f.zone z).fire = .normal) ∧
      (site.group 7).setting = none ∧ burning.evacuate = true := by decide

/-! ## Statements: doors and interlocked vestibules -/

/-- Door 0, free of causes, held and barred by the latch; the request with its least, its greatest and no time. -/
theorem witness_RequestsMoveAnUnpairedDoor :
    let held := withDoor 0 (fun x => { x with
      causes := ⟨false, false, true, some .host, false⟩, release := some ⟨60, 0⟩ }) site
    let barred : State := { site.putDoor 1 (dr 252 true) with doors.latchEvac := true }
    (site.link.free = true ∧ 0 < 32 ∧ (site.door 0).configured = true ∧ site.pairOf 0 = none ∧
        ¬ ((site.door 0).cfg.egress = true ∧ site.latched = true) ∧ (site.door 0).causes.hostHold = false ∧
        (site.door 0).causes.timed = none) ∧
      ((held.door 0).configured = true ∧ held.pairOf 0 = none ∧ (held.door 0).causes.hostHold = true ∧
        (held.door 0).causes.timed.isSome = true) ∧
      (barred.door 1).configured = true ∧ barred.pairOf 1 = none ∧ (barred.door 1).cfg.egress = true ∧
      barred.latched = true := by decide

/-- Door 1 at the unbound point 252, door 0 unconfigured, the doors of pair 7 in the other order and unconfigured; door 0 and
the paired door 31 with their points, pair 7 with its doors. -/
theorem witness_CfgDoorRemakesRecord :
    (site.link.free = true ∧ site.cfgRefusal = none ∧ site.latched = false ∧ site.alarms.Sound) ∧
      (1 < 32 ∧ isPoint 252 = true ∧ site.isKind 252 .door = true ∧ (∀ e < 32, (site.door e).cfg.point ≠ some 252) ∧
        site.doorNamed 1 = false) ∧
      (0 < 32 ∧ (site.door 0).configured = true ∧ site.doorNamed 0 = false) ∧
      (∀ d, d = 31 ∨ d = 30 → d < 32 ∧ (site.door d).configured = true ∧ (site.door d).cfg.publicDoor = false ∧
        (site.pairOf d = none ∨ site.pairOf d = some 7)) ∧
      ((site.door 31).causes.isEmpty = true ∨ (site.door 30).causes.isEmpty = true) ∧
      (∀ o, (site.pair 7).cfg = some o → ¬ (o.doorX = 31 ∧ o.doorY = 30)) ∧ 7 < 8 ∧ (site.pair 7).cfg.isSome = true ∧
      (isPoint 253 = true ∧ site.isKind 253 .door = true ∧ (∀ e < 32, (site.door e).cfg.point = some 253 ↔ e = 0) ∧
        site.pairOf 0 = none) ∧
      (isPoint 255 = true ∧ site.isKind 255 .door = true ∧ (∀ e < 32, (site.door e).cfg.point = some 255 ↔ e = 31) ∧
        site.pairOf 31 = some 7 ∧ (site.pair 7).cfg = some ⟨30, 31, 10, 60⟩ ∧ 30 ≠ 31 ∧
        (site.door 31).causes.schedule = false ∧ (site.door 31).isQuiet = true ∧ (site.pair 7).quietY ≠ .notQuiet) := by
  refine ⟨⟨by decide, by decide, by decide, site_alarms_sound⟩, by decide, by decide, ?_, by decide, of_all (by decide),
    by decide, by decide, by decide, by decide⟩
  rintro d (rfl | rfl) <;> decide

/-- Door 0 alone, and door 31 of pair 7 as the last cause of a closed door. -/
theorem witness_DoorTimersExpire :
    let timed := fun x : Door => { x with
      causes := ⟨false, false, false, some .exit, false⟩, release := some ⟨1, 20⟩, allow := some ⟨1, 20⟩ }
    let s := withDoor 0 timed site
    let p := withDoor 31 timed (site.putPair 7 ⟨some ⟨30, 31, 10, 60⟩, .settled, .notQuiet, none, false⟩)
    (0 < 32 ∧ 31 < 32 ∧ (s.door 0).release.isSome = true ∧ (s.door 0).causes.timed.isSome = true ∧ s.pairOf 0 = none ∧
        (s.door 0).allow.isSome = true ∧ (s.door 31).release = none ∧ (s.door 31).allow = none) ∧
      (p.door 31).release.isSome = true ∧ (p.door 31).causes.timed.isSome = true ∧ p.pairOf 31 = some 7 ∧
      (p.pair 7).cfg = some ⟨30, 31, 10, 60⟩ ∧ 30 ≠ 31 ∧ (p.pair 7).slot = none ∧ (p.pair 7).quietY = .notQuiet := by decide

/-- Door 0 at its point 253: at rest with an EDGE press, at a held LEVEL button and its release, barred, at a closing that
relocks, and isolated; no scan ends the start-up hold. -/
theorem witness_DoorRepliesMoveTheDoor :
    let at253 := fun (m : ExitMode) (f : Door → Door) =>
      withDoor 0 (fun x => f { x with cfg := { x.cfg with exitMode := m, relock := true } }) (polled 253 site)
    let s := at253 .edge id
    let l := at253 .level fun x => { x with causes := ⟨false, false, false, none, true⟩, exitPressed := some true }
    let c := at253 .off fun x => { x with
      causes := ⟨false, false, false, some .host, false⟩, contact := some .opened, openedTimed := true }
    ((s.scanner .b).exchange = some ⟨253, .empty⟩ ∧ 253 < 256 ∧ (s.point 253).cfg.configured = true ∧
        (s.point 253).cfg.kind = .door ∧ s.doorOf 253 = some 0 ∧ s.pairOf 0 = none ∧ s.nextPoint .b 253 ≠ none ∧
        s.doors.latchStartUp = false) ∧
      ((s.door 0).cfg.exitMode = .edge ∧ (s.door 0).exitPressed = some false ∧ (s.door 0).unread = false ∧
        ¬ ((s.door 0).cfg.egress = true ∧ s.latched = true)) ∧
      (l.doorOf 253 = some 0 ∧ l.pairOf 0 = none ∧ (l.door 0).cfg.exitMode = .level ∧
        (l.door 0).causes.exitLevel = true) ∧
      (c.doorOf 253 = some 0 ∧ c.pairOf 0 = none ∧ (c.door 0).contact = some .opened ∧ (c.door 0).cfg.relock = true ∧
        (c.door 0).causes.timed.isSome = true ∧ (c.door 0).openedTimed = true ∧ (c.door 0).ignore = none) ∧
      (withPoint 253 (fun x => { x with isolation := .standing }) s).effective 253 = true := by decide

/-- Door 31 at its point 255 in pair 7: its third mismatch, its closing with every condition, an opening with an exit
release in a watched zone, standing, pressed by EDGE and by LEVEL and let go, and beside an open partner, its isolation and
the end of one. -/
theorem witness_DoorRepliesAndIsolationMoveConditions :
    let s := polled 255 site
    let worn := withDoor 31 (fun x => { x with mismatch := 2, lockFault := false }) s
    let open31 := withDoor 31 (fun x => { x with
      contact := some .opened, forced := some .forcing, heldOpen := true, lockFault := true }) s
    let exits := withDoor 31 (fun x => { x with causes := ⟨false, false, false, some .exit, false⟩ })
      (s.putGroup 7 (.fresh ⟨60, .set⟩))
    let button := fun (m : ExitMode) (held : Bool) => withDoor 31 (fun x => { x with
      cfg := { x.cfg with exitMode := m }, causes := { x.causes with exitLevel := held } }) (s.putGroup 7 (.fresh ⟨60, .set⟩))
    let beside := withDoor 30 (fun x => { x with contact := some .opened }) s
    let away := withPoint 255 (fun x => { x with isolation := .temporary ⟨720, 0⟩ }) site
    (255 < 256 ∧ (s.point 255).cfg.configured = true ∧ (s.point 255).cfg.kind = .door ∧ s.doorOf 255 = some 31 ∧
        s.inAlarm 255 = false ∧ s.alarms.Sound ∧ s.alarms.otherCount < 37 ∧
        (∀ q c, (site.pair q).cfg = some c → c.doorX ≠ c.doorY) ∧ (s.scanner .b).exchange = some ⟨255, .empty⟩ ∧
        s.doors.latchStartUp = false ∧ s.effective 255 = false) ∧
      ((worn.door 31).lockFault = false ∧ 2 ≤ (worn.door 31).mismatch ∧ Lock.free ≠ (worn.door 31).causes.lock) ∧
      ((open31.door 31).contact = some .opened ∧ (open31.door 31).forced = some .forcing ∧
        (open31.door 31).heldOpen = true ∧ (open31.door 31).lockFault = true ∧ open31.pairOf 31 = some 7) ∧
      (∀ u ∈ [button .edge false, button .level false, button .level true], (u.door 31).contact = some .closed ∧
        ¬ ((u.door 31).cfg.egress = true ∧ u.latched = true) ∧ (u.door 31).exitPressed = some false ∧
        (u.door 31).unread = false ∧ u.pairOf 31 = some 7 ∧ (u.pair 7).cfg = some ⟨30, 31, 10, 60⟩ ∧
        (u.pair 7).slot = none ∧ (u.door 30).causes.evac = false ∧ (u.pair 7).quietX = .settled ∧
        u.guarded (u.doorZone 31) = true ∧ u.covered (u.doorZone 31) = false ∧ u.effective 255 = false ∧
        u.guard.doorExit.get 31 = false) ∧
      ((exits.door 31).contact = some .closed ∧ (exits.door 31).cfg.exitMode = .off ∧
        (exits.door 31).causes.exitRelease = true ∧ exits.guarded (exits.doorZone 31) = true ∧
        exits.covered (exits.doorZone 31) = false ∧ exits.guard.doorExit.get 31 = false) ∧
      ((beside.door 30).contact = some .opened ∧ beside.latched = false ∧ beside.doorIsolated 30 = false ∧
        (beside.pair 7).cfg = some ⟨30, 31, 10, 60⟩ ∧ (beside.pair 7).breach = false ∧
        (site.door 30).contact ≠ some .opened) ∧
      (site.link.free = true ∧ isPoint 255 = true ∧ (site.point 255).isolation = .none) ∧
      (away.point 255).isolation = .temporary ⟨720, 0⟩ := by
  refine ⟨⟨by decide, by decide, by decide, by decide, by decide, site_alarms_sound, by decide, site_pairs_two_doors,
    by decide, by decide, by decide⟩, by decide, by decide, by decide +kernel, by decide, by decide, by decide, by decide⟩

theorem witness_LatchLosesItsCauses :
    let latched := fun e u => ({ site with doors.latchEvac := e, doors.latchStartUp := u } : State)
    ((latched true false).link.free = true ∧ (latched true false).evacuate = false ∧
        (latched true false).doors.latchEvac = true ∧ (latched true false).doors.latchStartUp = false ∧
        (∀ q < 8, ((latched true false).pair q).slot = none)) ∧
      ((latched true true).doors.latchEvac = true ∧ (latched true true).doors.latchStartUp = true) ∧
      ((latched false true).doors.latchEvac = false ∧ (latched false true).doors.latchStartUp = true) ∧
      burning.link.free = true ∧ burning.evacuate = true ∧ site.doors.latchEvac = false := by decide

/-- Doors 30 and 31 of pair 7: the partner settled, not settled, holding EVAC, and with a request that waits; door 30 held, to
be locked beside a request for either door. -/
theorem witness_PairsRuleOnAdditions :
    let pair := fun (x y : Quiet) (r : Option PendingRequest) =>
      site.putPair 7 ⟨some ⟨30, 31, 10, 60⟩, x, y, r, false⟩
    (site.pairOf 30 = some 7 ∧ site.pairOf 31 = some 7 ∧ (site.pair 7).cfg = some ⟨30, 31, 10, 60⟩ ∧ 31 < 32 ∧
        (site.door 30).configured = true ∧ (site.door 31).configured = true ∧ 30 ≠ 31 ∧ site.link.free = true ∧
        ¬ ((site.door 31).cfg.egress = true ∧ site.latched = true) ∧ (site.door 31).causes.hostHold = false ∧
        (site.pair 7).quietX = .settled ∧ (site.pair 7).slot = none ∧ (site.door 30).causes.evac = false) ∧
      (((pair (.quiet ⟨10, 0⟩) .notQuiet none).pair 7).quietX = .quiet ⟨10, 0⟩ ∧
        (pair (.quiet ⟨10, 0⟩) .notQuiet none).pairOf 30 = some 7 ∧
        ((pair (.quiet ⟨10, 0⟩) .notQuiet none).pair 7).quietX ≠ .settled) ∧
      (let s := pair (.quiet ⟨1, 20⟩) .notQuiet (some ⟨31, .timed 60 .host, ⟨60, 0⟩⟩)
      s.pairOf 30 = some 7 ∧ (s.pair 7).slot = some ⟨31, .timed 60 .host, ⟨60, 0⟩⟩ ∧ (s.pair 7).quietX = .quiet ⟨1, 20⟩ ∧
        s.link.reports.length + 1 ≤ 96) ∧
      ((burning.door 31).causes.evac = true ∧ burning.pairOf 30 = some 7 ∧ (burning.door 30).cfg.egress = false) ∧
      (let s := polled 254 site
      (s.scanner .b).exchange = some ⟨254, .empty⟩ ∧ 254 < 256 ∧ (s.point 254).cfg.configured = true ∧
        (s.point 254).cfg.kind = .door ∧ s.doorOf 254 = some 30 ∧ s.nextPoint .b 254 ≠ none ∧
        (s.door 30).contact = some .closed ∧ (s.pair 7).quietX ≠ .notQuiet ∧ (s.door 30).exitPressed = some false ∧
        (s.door 30).unread = false ∧ (s.door 30).causes.exitLevel = false) ∧
      (∀ d ∈ [30, 31],
        let s := withDoor 30 (fun x => { x with causes := ⟨false, false, true, none, false⟩ })
          (site.putPair 7 ⟨some ⟨30, 31, 0, 60⟩, .notQuiet, .settled, some ⟨d, .timed 60 .host, ⟨60, 0⟩⟩, false⟩)
        s.link.free = true ∧ s.pairOf 30 = some 7 ∧ (s.pair 7).cfg = some ⟨30, 31, 0, 60⟩ ∧
          (s.door 30).causes.hostHold = true ∧ { (s.door 30).causes with hostHold := false, timed := none } = Causes.none ∧
          (s.door 30).contact = some .closed ∧ (s.pair 7).quietX = .notQuiet ∧ (s.pair 7).slot.map (·.door) = some d ∧
          s.link.reports.length + 1 ≤ 96) := by
  decide

/-! ## Statements: guarding and calls -/

theorem witness_GrantsCoverTheirZones :
    let g : Grant := ⟨255, [0, 1, 2, 47], 900, ⟨900, 0⟩, 9⟩
    let one : State := { site with guard.grants := site.guard.grants.put 3 (some g) }
    let full : State := { site with guard.grants := ⟨[some ⟨1, [0], 30, ⟨30, 0⟩, 9⟩, some ⟨2, [0], 30, ⟨30, 0⟩, 9⟩,
      some ⟨3, [0], 30, ⟨30, 0⟩, 9⟩, some g], rfl⟩ }
    (site.link.free = true ∧ g.zones ≠ [] ∧ g.zones.length ≤ 4 ∧ (∀ z ∈ g.zones, z < 48) ∧ g.zones.Nodup) ∧
      (0 < 4 ∧ site.guard.grants.get 0 = none ∧ ∀ j < 0, (site.guard.grants.get j).isSome = true) ∧
      (full.link.free = true ∧ ∀ k < 4, (full.guard.grants.get k).isSome = true) ∧
      (3 < 4 ∧ one.guard.grants.get 3 = some g ∧ one.link.free = true ∧ one.link.reports.length + 1 ≤ 96 ∧
        ∀ j h, j ≠ 3 → one.guard.grants.get j = some h → h.number ≠ g.number) ∧
      ∀ j h, site.guard.grants.get j = some h → h.number ≠ 255 := by
  refine ⟨by decide, by decide, by decide, ⟨by decide, rfl, rfl, by decide, ?_⟩, ?_⟩
  · intro j h hj e
    match j with
    | 0 | 1 | 2 => cases e
    | 3 => exact absurd rfl hj
    | _ + 4 => cases e
  · exact at_every_number site.guard.grants (P := fun x => ∀ h, x = some h → h.number ≠ 255) (by intro h e; cases e)
      (by intro x hx; rw [List.eq_of_mem_replicate hx]; intro h e; cases e)

/-- Group 7, and with it zone 47, in SET: the PRESENCE point 129, and the door 31 in each exit input mode: its button freeing it, and, beside a partner that is not
SETTLED, not. -/
theorem witness_GuardedZonesWatchPresenceAndDoors :
    let set := fun s : State => s.putGroup 7 (.fresh ⟨60, .set⟩)
    let watched := fun (s : State) (z : Nat) => s.zoneMode z = .set ∧ s.evacuate = false ∧ s.guard.quiet = none ∧
      (s.zone z).fire = .normal ∧ s.covered z = false
    ((∀ q c, (site.pair q).cfg = some c → c.doorX ≠ c.doorY) ∧ site.alarms.otherCount < 40) ∧
      (let s := set (polled 129 site)
      (s.scanner .b).exchange = some ⟨129, .empty⟩ ∧ 129 < 256 ∧ (s.point 129).cfg.configured = true ∧
        s.effective 129 = false ∧ (s.point 129).cfg.kind = .presence ∧ s.guard.presence.get 129 = false ∧ watched s 47) ∧
      (∀ m ∈ [ExitMode.off, .edge, .level],
        let s := withDoor 31 (fun x => { x with cfg := { x.cfg with exitMode := m } }) (set (polled 255 site))
        ((s.scanner .b).exchange = some ⟨255, .empty⟩ ∧ 255 < 256 ∧ (s.point 255).cfg.configured = true ∧
          s.effective 255 = false ∧ (s.point 255).cfg.kind = .door ∧ s.doorOf 255 = some 31 ∧
          (s.door 31).contact = some .closed ∧ (s.door 31).causes.isEmpty = true ∧ (s.door 31).grace = none ∧
          (s.door 31).afresh = false ∧ (s.door 31).cfg.exitMode = m ∧ s.doorZone 31 = 47 ∧ watched s 47) ∧
        (s.pairOf 31 = some 7 ∧ (s.pair 7).cfg = some ⟨30, 31, 10, 60⟩ ∧ (s.pair 7).quietY ≠ .notQuiet ∧
          (s.pair 7).slot = none ∧ (s.door 30).causes.evac = false ∧ (s.pair 7).quietX = .settled ∧
          ¬ ((s.door 31).cfg.egress = true ∧ s.latched = true) ∧ (s.door 31).exitPressed = some false ∧
          (s.door 31).unread = false ∧ s.alarms.otherCount < 39)) ∧
      ((site.putPair 7 ⟨some ⟨30, 31, 10, 60⟩, .notQuiet, .settled, none, false⟩).pair 7).quietX ≠ .settled ∧
      ¬ watched (polled 255 site) 47 := by
  refine ⟨⟨site_pairs_two_doors, by decide⟩, by decide, by decide +kernel, by decide, by decide⟩

/-- A press intercepted, of a point that holds a record, at an isolated point, admitted to an empty and to a full queue,
and deferred with no place in the queue; END_CALL with presses of each class that wait; an answer of point 10. -/
theorem witness_PressTakesOneOfItsForms :
    let full : State := { site with calls := ⟨fullQueue, 17⟩ }
    (site.CallsSound ∧ full.CallsSound ∧ (calling .waiting).CallsSound) ∧
      (let s := site.putGroup 0 (.fresh ⟨60, .set⟩)
      10 < 256 ∧ s.zoneMode (s.point 10).cfg.zone = .set ∧ s.evacuate = false ∧ s.guard.quiet = none ∧
        (s.zone (s.point 10).cfg.zone).fire = .normal ∧ s.effective 10 = false ∧ s.alarms.otherCount < 40) ∧
      (site.zoneMode (site.point 10).cfg.zone ≠ .set ∧ (∃ r ∈ (calling .waiting).calls.queue, r.point = 10)) ∧
      (site.putPoint 10 { site.point 10 with isolation := .standing }).effective 10 = true ∧
      (site.calls.queue.length < 16 ∧ site.effective 10 = false ∧ (site.point 10).deferred = none) ∧
      (full.calls.queue.length = 16 ∧ (full.point 10).cfg.cls = some .refuge ∧ (full.point 11).cfg.cls = some .help ∧
        (¬ ∃ r ∈ full.calls.queue, r.point = 10) ∧
        ∃ r ∈ full.calls.queue, r.cls = .help ∧ r.state = .waiting ∧
          ∀ x ∈ full.calls.queue, x.cls = .help → x.state = .waiting → x.admission ≤ r.admission) ∧
      (let s := withPoint 11 (fun x => { x with deferred := some 3 }) (withPoint 10 (fun x => { x with deferred := some 4 })
        full)
      (∃ r ∈ s.calls.queue, r.number = 255) ∧ s.link.free = true ∧ isPoint 10 = true ∧ (s.point 10).deferred = some 4 ∧
        (s.point 11).deferred = some 3 ∧ s.effective 10 = false ∧ s.effective 11 = false ∧
        (s.point 10).cfg.cls = some .refuge ∧ (s.point 11).cfg.cls = some .help) ∧
      (let s := polledA 10 site
      (s.scanner .a).exchange = some ⟨10, .empty⟩ ∧ (s.point 10).cfg.configured = true ∧ (s.point 10).cfg.kind = .call ∧
        s.nextPoint .a 10 ≠ none ∧ s.doors.latchStartUp = false ∧ (s.point 10).health = .normal) := by
  refine ⟨⟨site_calls_sound, ?_, calling_sound _⟩, by decide, by decide, by decide, by decide, by decide,
    by decide, by decide⟩
  unfold State.CallsSound; decide

theorem witness_CallRequestsAndTimersMoveTheirRecord :
    let call := fun x : CallState => (⟨255, 10, .help, 9, x, 2, false⟩ : Call)
    (∀ x, (calling x).CallsSound ∧ (calling x).alarms.Sound ∧ call x ∈ (calling x).calls.queue ∧
        (calling x).link.free = true) ∧
      (call (.offered .two ⟨1, 20⟩)).state = .offered .two ⟨1, 20⟩ ∧
      (call (.connected .one 50 ⟨1, 20⟩)).state = .connected .one 50 ⟨1, 20⟩ ∧
      ∀ ch w, (call .held).state ≠ .offered ch w := by
  refine ⟨fun x => ⟨calling_sound x, site_alarms_sound, List.mem_singleton.mpr rfl, rfl⟩, rfl, rfl, fun ch w h => ?_⟩
  cases h

/-! ## Statements: routes, signs, luminaires -/

/-- The exit 11 of the door 31, which the sign 63 names and then does not; a door and a zone that are not there; the exit 0,
which is not configured. -/
theorem witness_ExitsAreBlockedAndConfigured :
    ((∃ n < 64, ∃ c, (site.sign n).cfg = some c ∧ ∃ r ∈ c.entries, r.exit = 11) ∧ (site.door 29).configured = false ∧
        31 < 32 ∧ 47 < 48 ∧ (site.exit 0).cfg = none) ∧
    (site.link.free = true ∧ site.RoutesSound ∧ 11 < 12 ∧ (site.exit 11).cfg = some ⟨some 31, some 47⟩) ∧
      (site.cfgRefusal = none ∧ 31 < 32 ∧ (site.door 31).configured = true ∧ 47 < 48) ∧
      (let s := site.putSign 63 ⟨none, none, none, false⟩
      s.cfgRefusal = none ∧ s.link.free = true ∧ (s.exit 11).cfg.isSome = true ∧ s.RoutesSound ∧
        ∀ n < 64, ∀ c, (s.sign n).cfg = some c → ∀ r ∈ c.entries, r.exit ≠ 11) := by
  have h : ∀ n < 64, ((site.putSign 63 ⟨none, none, none, false⟩).sign n).cfg = none := by decide
  refine ⟨⟨⟨63, by decide, _, rfl, _, List.mem_singleton.mpr rfl, rfl⟩, by decide⟩,
    ⟨rfl, site_routes_sound, by decide, by decide⟩, by decide, by decide, rfl, by decide,
    ⟨by decide, by decide, ?_⟩, ?_⟩ <;>
    · intro n hn c e; rw [h n hn] at e; cases e

theorem witness_SignsAreConfiguredAndStepped :
    let es : List RouteEntry := [⟨11, .left, [0, 1, 2, 3, 4, 47]⟩]
    let x : SignSetting := ⟨31, some .dark, es.map fun r => ⟨r.exit, some r.face, r.path⟩, some 15, 8⟩
    (site.link.free = true ∧ site.cfgRefusal = none ∧ site.alarms.Sound ∧ 62 < 64 ∧ site.isKind x.point .sign = true ∧
        (∀ m < 64, m ≠ 62 → ∀ c, (site.sign m).cfg = some c → c.point ≠ x.point) ∧ x.face = some .dark ∧ Face.dark ≠ .noExit ∧
        x.entries = (es.map fun r => ⟨r.exit, some r.face, r.path⟩) ∧ es.length ≤ 4 ∧
        (∀ r ∈ es, r.exit < 12 ∧ (site.exit r.exit).cfg.isSome = true ∧
          (r.face = .left ∨ r.face = .right ∨ r.face = .ahead ∨ r.face = .up ∨ r.face = .down) ∧ r.path ≠ [] ∧
          r.path.length ≤ 6 ∧ (∀ z ∈ r.path, z < 48) ∧ r.path.Nodup) ∧ ∀ q, x.sequence = some q → q < 16) ∧
      (15 < 16 ∧ 56 < 64 ∧ 1 ≤ (List.replicate 8 (StepKind.dark, 21)).length ∧
        (List.replicate 8 (StepKind.dark, 21)).length ≤ 8 ∧ 56 + (List.replicate 8 (StepKind.dark, 21)).length ≤ 64) ∧
      (∀ m < 64, m ≠ 63 → (site.sign m).cfg = none) ∧ (site.sign 63).cfg.map (·.point) = some 30 ∧
      (63 < 64 ∧ ∃ c, (site.sign 63).cfg = some c ∧ c.sequence = some 15 ∧ (site.sign 63).step = some ⟨1, 1⟩ ∧ 1 ≤ 1 ∧
        c.chosenFace (site.sign 63).chosen ≠ .noExit ∧ c.point < 256) := by
  have h : ∀ m < 64, (site.sign m).cfg.all (fun c => decide (c.point ≠ 31)) = true := by decide
  refine ⟨⟨rfl, rfl, site_alarms_sound, by decide, by decide, fun m hm _ => of_all (h m hm), rfl, by decide, rfl, by decide,
    by decide, of_all (by decide)⟩, by decide, by decide, by decide, by decide, _, rfl, rfl, rfl, by decide, by decide, by decide⟩

theorem witness_LampsAreConfiguredAndCommanded :
    (site.link.free = true ∧ site.cfgRefusal = none ∧ isPoint 21 = true ∧ site.isKind 21 .lamp = true ∧
        site.alarms.Sound ∧ 3 ≤ 3 ∧ site.lamp 21 = none) ∧
      (isPoint 20 = true ∧ site.isKind 20 .lamp = true ∧ site.lamp 20 = some (.fresh ⟨3, true⟩) ∧
        (site.lampGroup 0).underTest = false ∧ (site.lampGroup 3).underTest = false) ∧
      (burning.evacuate = true ∧ site.evacuate = false ∧ site.fire.mainsOk.level = true) ∧
      3 < 4 ∧ (10800 = 3600 ∨ 10800 = 10800) := by
  refine ⟨⟨by decide, by decide, by decide, by decide, site_alarms_sound, by decide, by decide⟩, by decide, by decide,
    by decide, by decide⟩

theorem witness_LampTestsStartSuspendResumeStop :
    (site.link.free = true ∧ 3 < 4 ∧ site.roomFor 1 ∧ (site.lampGroup 3).state = .idle ∧ site.evacuate = false ∧
        site.fire.mainsOk.level = true ∧ ∀ h < 4, h ≠ 3 → (site.lampGroup h).underTest = false) ∧
      ((groupIn .running).link.free = true ∧ (groupIn .running).roomFor 1 ∧
        ((groupIn .running).lampGroup 3).state = .running) ∧
      ((groupIn .suspended).link.free = true ∧ (groupIn .suspended).roomFor 1 ∧
        ((groupIn .suspended).lampGroup 3).state = .suspended ∧ (groupIn .suspended).evacuate = false ∧
        (groupIn .suspended).fire.mainsOk.level = true ∧
        ∀ h < 4, h ≠ 3 → ((groupIn .suspended).lampGroup h).underTest = false) := by
  unfold State.roomFor; decide

/-- Group 3 in each state; the lamp 20 with a battery fault of TEST and its entry, which its group's test may end. -/
theorem witness_LampTestsEndByTheirTimers :
    (let l : Lamp := ⟨⟨3, true⟩, true, .none, false, .test⟩
      let e : Entry := ⟨.batteryFault, .point 20, true, false, 9, 9, 1⟩
      let s : State := { (groupIn .running).putLamp 20 (some l) with alarms := ⟨[e], false, false, false⟩ }
      s.alarms.Sound ∧ isPoint 20 = true ∧ s.lamp 20 = some l ∧ l.cfg.group = 3 ∧ l.included = true ∧ l.outcome ≠ .fail ∧
        l.battery = .test ∧ (s.alarms.entries.countP fun a => a.kind == .batteryFault && a.active) = 1 ∧ s.roomFor (1 + 1)) ∧
    3 < 4 ∧ ((groupIn .suspended).lampGroup 3).state = .suspended ∧ ((groupIn .running).lampGroup 3).state = .running ∧
      ((groupIn .recharge).lampGroup 3).state = .recharge ∧ (site.lampGroup 3).state ≠ .suspended := by
  refine ⟨⟨?_, by decide, by decide, rfl, rfl, by decide, rfl, by decide, show 0 + 2 ≤ 96 by decide⟩, by decide⟩
  simp only [Alarms.Sound, Entry.Proper]; decide

/-- The lamp 20 in a running test, with no record, isolated and lost; the sign 63 at its point 30. -/
theorem witness_LampAndSignRepliesMoveTheirFaults :
    let x : Lamp := ⟨⟨3, true⟩, true, .none, false, .failed⟩
    let s := withPoint 20 (fun y => { y with misses := 2 }) (polledA 20 ((groupIn .running).putLamp 20 (some x)))
    let away := fun p => withPoint p (fun y => { y with isolation := .standing }) site
    ((s.scanner .a).exchange = some ⟨20, .empty⟩ ∧ 20 < 256 ∧ (s.point 20).cfg.configured = true ∧
        s.nextPoint .a 20 ≠ none ∧ s.alarms.Sound ∧ s.alarms.otherCount < 37 ∧ (s.point 20).cfg.kind = .lamp ∧
        s.lamp 20 = some x ∧ s.effective 20 = false ∧ s.roomFor 5) ∧
      ((s.lampGroup 3).state = .running ∧ x.included = true ∧ x.outcome ≠ .fail ∧ x.lampFault = false ∧
        (s.point 20).health ≠ .missing ∧ 2 ≤ (s.point 20).misses ∧ (s.point 20).health ≠ .wrongKind ∧
        (away 20).effective 20 = true ∧ (site.point 21).cfg.kind = .lamp ∧ site.lamp 21 = none) ∧
      (((polledA 30 site).scanner .a).exchange = some ⟨30, .empty⟩ ∧ (site.point 30).cfg.kind = .sign ∧
        site.signOf 30 = some 63 ∧ (site.sign 63).fault = false ∧ site.effective 30 = false ∧
        (away 30).effective 30 = true ∧ site.link.free = true ∧ isPoint 30 = true ∧ site.inAlarm 30 = false ∧
        site.nextPoint .a 30 ≠ none) := by
  refine ⟨⟨by decide, by decide, by decide, by decide, site_alarms_sound, by decide, by decide, by decide, by decide,
    show 0 + 5 ≤ 96 by decide⟩, by decide, by decide⟩

/-! ## Statements: the invariants -/

/-- The invariants hold together of an installation at rest and of one in an evacuation, and a step leads on from each. -/
theorem witness_invariants_kept_by_step :
    (site.CallsSound ∧ site.ChannelsUsed ∧ site.EgressStandsFree ∧ site.RoutesSound ∧ site.WordsSound ∧
        site.NoneSettingInEvacuation ∧ site.alarms.Sound ∧ site.link.Sound ∧ ∃ t, step { site with pending := [.getCalls 1] } = .next t) ∧
      burning.EgressStandsFree ∧ burning.latched = true ∧ burning.evacuate = true ∧ burning.NoneSettingInEvacuation ∧
      ∃ t, step { burning with pending := [.silence 1] } = .next t ∧ t.fire.silenced = true ∧ t.evacuate = true := by
  refine ⟨⟨site_calls_sound, ?_, ?_, site_routes_sound, site_words_sound, ?_, site_alarms_sound, ?_, _, rfl⟩, ?_, by decide, by decide, ?_,
    _, rfl, rfl, rfl⟩
  · unfold State.ChannelsUsed; decide
  · unfold State.EgressStandsFree; decide
  · unfold State.NoneSettingInEvacuation; decide
  · unfold Link.Sound; decide
  · unfold State.EgressStandsFree; decide
  · unfold State.NoneSettingInEvacuation; decide

end Sys2Proof.Tests
end

section
/-! PROOFS. CFG_PROFILE and the change of profiles at an end of scan (R2, R28, R29): operations that lose no queued report,
the test of the eight profiles, exchanges that leave the configuration of points as it was, and the ends of a scan. -/

namespace Sys2Proof.Machine

/-! ## What an untouched part tells of its readings -/

theorem ChangesOnly.profile_eq {ps : List Part} {s t : State} (h : ChangesOnly ps s t) (hp : Part.profiles ∉ ps)
    (n : Nat) : t.profile n = s.profile n := congrArg (Table.get · n) (h .profiles hp)

theorem ChangesOnly.cfg_eq {ps : List Part} {s t : State} (h : ChangesOnly ps s t) (hp : Part.points ∉ ps) (p : Nat) :
    (t.point p).cfg = (s.point p).cfg := by
  injection h .points hp p

theorem ChangesOnly.scanner_eq {ps : List Part} {s t : State} (h : ChangesOnly ps s t) (hp : Part.scanners ∉ ps)
    (l : LoopId) : t.scanner l = s.scanner l := by
  obtain ⟨ha, hb⟩ := h .scanners hp
  cases l
  · exact ha
  · exact hb

/-! ## Operations that lose no queued report -/

/-- Every report that waits in `s` waits in `t` too, in the same order, ahead of those that have joined. -/
def State.KeepsReports (s t : State) : Prop := s.link.reports <+: t.link.reports

theorem State.KeepsReports.refl (s : State) : s.KeepsReports s := List.prefix_rfl

theorem State.KeepsReports.trans {s t u : State} (h : s.KeepsReports t) (k : t.KeepsReports u) : s.KeepsReports u :=
  List.IsPrefix.trans h k

theorem ChangesOnly.keepsReports {ps : List Part} {s t : State} (h : ChangesOnly ps s t) (hp : Part.reports ∉ ps) :
    s.KeepsReports t := by
  rw [State.KeepsReports, (h .reports hp).1]

theorem Changes.keepsReports {ps : List Part} {s t : State} (h : Changes ps s t) (hp : Part.reports ∉ ps) :
    s.KeepsReports t := h.only.keepsReports hp

theorem State.report_keepsReports (s : State) (b : ReportBody) : s.KeepsReports (s.report b) := by
  unfold State.KeepsReports State.report
  split
  · exact List.prefix_append ..
  · exact List.prefix_rfl

theorem State.reportDoor_keepsReports (s : State) (d : Nat) (ev : DoorEvent) : s.KeepsReports (s.reportDoor d ev) :=
  s.report_keepsReports _

theorem State.raise_keepsReports (s : State) (k : AlarmKind) (o : Obj) : s.KeepsReports (s.raise k o) := by
  obtain ⟨b, hb⟩ := s.raiseAs_eq true k o
  rw [State.raise, hb]
  exact State.report_keepsReports { s with alarms := s.alarms.raised s.now true k o } b

theorem State.each_keepsReports {f : Nat → State → State} (hf : ∀ n (t : State), t.KeepsReports (f n t))
    (ns : List Nat) (s : State) : s.KeepsReports (s.each ns f) := by
  induction ns generalizing s with
  | nil => exact .refl s
  | cons n ns ih => exact (hf n s).trans (ih (f n s))

theorem State.chooseRoute_keepsReports (s : State) (cause : RouteCause) (n : Nat) :
    s.KeepsReports (s.chooseRoute cause n) := by
  have hw (x : Sign) : s.KeepsReports ((s.putSign n x).writeSign n) :=
    ((s.putSign_changes n x).keepsReports (by decide)).trans ((State.writeSign_changes _ n).keepsReports (by decide))
  unfold State.chooseRoute
  split
  · exact .refl s
  · dsimp only
    split
    · exact hw _
    · exact (hw _).trans (State.report_keepsReports _ _)

theorem State.reroute_keepsReports (s : State) (cause : RouteCause) : s.KeepsReports (s.reroute cause) :=
  (s.recomputeUsable_changes.keepsReports (by decide)).trans
    (State.each_keepsReports (fun n t => t.chooseRoute_keepsReports cause n) _ _)

theorem State.changeRecord_keepsReports (s : State) (d : Nat) (new : Door) (graceless : Bool) :
    s.KeepsReports (s.changeRecord d new graceless) := by
  have hput (x : Door) : s.KeepsReports (s.putDoor d x) := (s.putDoor_changes d x).keepsReports (by decide)
  have hlock (x : Door) : s.KeepsReports ((s.putDoor d x).writeLock d) :=
    (hput x).trans ((State.writeLock_changes _ d).keepsReports (by decide))
  unfold State.changeRecord
  dsimp only
  split <;> split
  · exact hput _
  · exact hlock _
  · exact (hput _).trans (State.reroute_keepsReports _ _)
  · exact (hlock _).trans (State.reroute_keepsReports _ _)

theorem State.seeQuiet_keepsReports (s : State) (d : Nat) : s.KeepsReports (s.seeQuiet d) :=
  (s.seeQuiet_changes d).keepsReports (by decide)

theorem State.grantPartner_keepsReports (s : State) (d : Nat) : s.KeepsReports (s.grantPartner d) := by
  unfold State.grantPartner
  split
  · exact .refl s
  · split
    · split
      · exact ((s.putPair_changes _ _).keepsReports (by decide)).trans <| (State.report_keepsReports _ _).trans <|
          (State.changeRecord_keepsReports _ _ _ _).trans <| (State.seeQuiet_keepsReports _ _).trans <|
          State.reportDoor_keepsReports _ _ _
      · exact .refl s
    · exact .refl s

theorem State.changeDoor_keepsReports (s : State) (d : Nat) (new : Door) (graceless : Bool) :
    s.KeepsReports (s.changeDoor d new graceless) := by
  have h : s.KeepsReports ((s.changeRecord d new graceless).seeQuiet d) :=
    (s.changeRecord_keepsReports d new graceless).trans (State.seeQuiet_keepsReports _ d)
  unfold State.changeDoor
  dsimp only
  split
  · exact h.trans (State.grantPartner_keepsReports _ d)
  · exact h

theorem State.judgeBreach_keepsReports (s : State) (q : Nat) : s.KeepsReports (s.judgeBreach q) := by
  unfold State.judgeBreach
  split
  · split
    · exact ((s.putPair_changes _ _).keepsReports (by decide)).trans (State.raise_keepsReports _ _ _)
    · exact .refl s
  · exact .refl s

theorem State.latchEmpties_keepsReports (s : State) : s.KeepsReports s.latchEmpties := by
  refine (State.each_keepsReports (fun d u => u.changeDoor_keepsReports d _ false) _ s).trans <|
    (State.each_keepsReports (fun q u => u.judgeBreach_keepsReports q) _ _).trans <|
    State.each_keepsReports (fun d u => ?_) _ _
  split
  · exact .refl u
  · exact u.reportDoor_keepsReports d .latch

theorem State.latchLosesStartUp_keepsReports (s : State) : s.KeepsReports s.latchLosesStartUp := by
  have h : s.KeepsReports
      (State.report { s with doors.latchStartUp := false } (.latchState s.doors.latchEvac false false false)) :=
    State.report_keepsReports { s with doors.latchStartUp := false } _
  unfold State.latchLosesStartUp
  dsimp only
  split
  · exact h
  · exact h.trans (State.latchEmpties_keepsReports _)

theorem State.doorsSeeScanEnd_keepsReports (s : State) (l : LoopId) : s.KeepsReports (s.doorsSeeScanEnd l) := by
  have h (u : State) (hu : s.KeepsReports u) : s.KeepsReports
      (if u.doors.scansA = 4 ∧ u.doors.scansB = 4 ∧ u.doors.latchStartUp then u.latchLosesStartUp else u) := by
    split
    · exact hu.trans u.latchLosesStartUp_keepsReports
    · exact hu
  cases l
  · exact h _ ((Changes.doors_scansA s _).keepsReports (by decide))
  · exact h _ ((Changes.doors_scansB s _).keepsReports (by decide))

/-! ## What the transmit path leaves in the queue -/

theorem State.pump_reports_length (s : State) : s.link.reports.length ≤ s.pump.link.reports.length + 1 := by
  unfold State.pump
  split
  · omega
  · split
    · simp
    · next hr => simp [hr]
    · omega

/-- A report that waits is in the outbox, and the choice of the next frame leaves it there. -/
theorem State.mem_pump_outbox {s : State} {r : Report} (h : r ∈ s.link.reports) : r ∈ s.pump.link.outbox := by
  rw [State.pump_outbox]
  exact List.mem_append_right _ h

theorem State.mem_report_reports {s : State} (b : ReportBody) (h : s.link.reports.length < 96) :
    ⟨s.now, b⟩ ∈ (s.report b).link.reports := by
  simp [s.report_reports b h]

theorem State.report_reports_length (s : State) (b : ReportBody) :
    (s.report b).link.reports.length ≤ s.link.reports.length + 1 := by
  unfold State.report
  split
  · simp
  · exact Nat.le_succ _

/-! ## The test of one profile (R29) -/

/-- Some detector in PRE_ALARM or CONFIRMING is judged by profile `n` (R29). -/
def State.ProfileHeld (s : State) (n : Nat) : Prop :=
  ∃ p < 256, ∃ d, s.detector p = some d ∧ d.profile = n ∧ (d.state = .preAlarm ∨ d.state = .confirming)

theorem Detector.holdsBack_iff (n : Nat) (d : Detector) :
    d.holdsBack n = true ↔ d.profile = n ∧ (d.state = .preAlarm ∨ d.state = .confirming) := by
  simp [Detector.holdsBack]

theorem State.profileHeld_iff_any (s : State) (n : Nat) :
    s.ProfileHeld n ↔ (s.detection.detectors.rows.any fun d => d.any (Detector.holdsBack n)) = true := by
  simp only [State.ProfileHeld, State.detector, Table.rows_eq_range, List.any_map, List.any_eq_true, List.mem_range,
    Function.comp_apply, Option.any_eq_true, Detector.holdsBack_iff]

theorem State.mayTransfer_iff (s : State) (n : Nat) :
    s.mayTransfer n = true ↔ (s.profile n).flag = true ∧ ¬ s.ProfileHeld n := by
  simp [State.mayTransfer, State.profileHeld_iff_any]

/-- The transfer of a profile at an end of scan, where R29 lets it. -/
def State.testProfile (n : Nat) (s : State) : State := if s.mayTransfer n then s.transfer n else s

theorem State.testProfiles_eq (s : State) : s.testProfiles = s.each (List.range 8) State.testProfile := rfl

theorem State.testProfile_changes (n : Nat) (s : State) : Changes [.profiles, .reports] s (s.testProfile n) := by
  unfold State.testProfile
  split
  · exact s.transfer_changes n
  · exact .refl _ s

theorem State.testProfile_keepsReports (n : Nat) (s : State) : s.KeepsReports (s.testProfile n) := by
  unfold State.testProfile
  split
  · exact ((s.putProfile_changes n _).keepsReports (by decide)).trans (State.report_keepsReports _ _)
  · exact .refl s

theorem State.testProfile_reports_length (n : Nat) (s : State) :
    (s.testProfile n).link.reports.length ≤ s.link.reports.length + 1 := by
  unfold State.testProfile
  split
  · exact State.report_reports_length (s.putProfile n _) _
  · exact Nat.le_succ _

theorem State.transfer_profile (s : State) (n m : Nat) : (s.transfer n).profile m =
    (s.putProfile n { s.profile n with working := (s.profile n).pending, flag := false }).profile m := by
  simp [State.transfer, State.profile]

theorem State.testProfile_profile_ne {n m : Nat} (h : n ≠ m) (s : State) : (s.testProfile n).profile m = s.profile m := by
  unfold State.testProfile
  split
  · rw [s.transfer_profile, s.profile_putProfile_ne h]
  · rfl

theorem State.testProfile_of_mayTransfer {s : State} {n : Nat} (hn : n < 8) (h : s.mayTransfer n = true) :
    (s.testProfile n).profile n = ⟨(s.profile n).pending, (s.profile n).pending, false⟩ := by
  rw [State.testProfile, if_pos h, s.transfer_profile, s.profile_putProfile hn]

theorem State.testProfile_of_not_mayTransfer {s : State} {n : Nat} (h : ¬ s.mayTransfer n = true) : s.testProfile n = s :=
  if_neg h

theorem State.testProfile_reported {s : State} {n : Nat} (h : s.mayTransfer n = true) (hr : s.link.reports.length < 96) :
    ⟨s.now, .profileApplied n⟩ ∈ (s.testProfile n).link.reports := by
  rw [State.testProfile, if_pos h]
  exact State.mem_report_reports (s := s.putProfile n _) _ hr

/-! ## The test of all eight -/

theorem State.each_append (s : State) (ms ns : List Nat) (f : Nat → State → State) :
    s.each (ms ++ ns) f = (s.each ms f).each ns f := List.foldl_append

theorem State.each_testProfile_changes (ns : List Nat) (s : State) :
    Changes [.profiles, .reports] s (s.each ns State.testProfile) := .each State.testProfile_changes ns s

theorem State.each_testProfile_profile {ns : List Nat} {m : Nat} (h : m ∉ ns) (s : State) :
    (s.each ns State.testProfile).profile m = s.profile m := by
  induction ns generalizing s with
  | nil => rfl
  | cons n ns ih =>
    obtain ⟨hn, hns⟩ := List.ne_and_not_mem_of_not_mem_cons h
    exact (ih hns _).trans (State.testProfile_profile_ne (Ne.symm hn) s)

theorem State.each_testProfile_reports_length (ns : List Nat) (s : State) :
    (s.each ns State.testProfile).link.reports.length ≤ s.link.reports.length + ns.length := by
  induction ns generalizing s with
  | nil => exact Nat.le_refl _
  | cons n ns ih =>
    calc ((s.testProfile n).each ns State.testProfile).link.reports.length
        ≤ (s.testProfile n).link.reports.length + ns.length := ih _
      _ ≤ s.link.reports.length + (ns.length + 1) := by have := s.testProfile_reports_length n; omega

/-- Profile `n` is tested in a state `u` in which it and the detectors stand as before the tests; those that follow leave
it as its own test does. -/
theorem State.testProfiles_at (s : State) {n : Nat} (hn : n < 8) :
    ∃ u : State, Changes [.profiles, .reports] s u ∧ u.profile n = s.profile n ∧
      u.link.reports.length ≤ s.link.reports.length + 7 ∧ s.testProfiles.profile n = (u.testProfile n).profile n ∧
      (u.testProfile n).KeepsReports s.testProfiles := by
  obtain ⟨ms, ns, hsplit⟩ := List.append_of_mem (List.mem_range.2 hn)
  have hdup : n ∉ ms ∧ n ∉ ns := by
    have := hsplit ▸ List.nodup_range (n := 8)
    simpa using (List.nodup_middle.1 this).notMem
  have hlen : ms.length ≤ 7 := by
    have := congrArg List.length hsplit
    simp at this; omega
  have hall : s.testProfiles = ((s.each ms State.testProfile).testProfile n).each ns State.testProfile := by
    rw [s.testProfiles_eq, hsplit, s.each_append]; rfl
  refine ⟨s.each ms State.testProfile, s.each_testProfile_changes ms, s.each_testProfile_profile hdup.1, ?_, ?_, ?_⟩
  · exact (s.each_testProfile_reports_length ms).trans (by omega)
  · rw [hall, State.each_testProfile_profile hdup.2]
  · rw [hall]; exact State.each_keepsReports State.testProfile_keepsReports ns _

theorem State.mayTransfer_congr {s u : State} {n : Nat} (hp : u.profile n = s.profile n)
    (hd : u.detection.detectors = s.detection.detectors) : u.mayTransfer n = s.mayTransfer n := by
  simp only [State.mayTransfer, hp, hd]

theorem State.testProfiles_of_mayTransfer {s : State} {n : Nat} (hn : n < 8) (h : s.mayTransfer n = true) :
    s.testProfiles.profile n = ⟨(s.profile n).pending, (s.profile n).pending, false⟩ := by
  obtain ⟨u, hu, hp, -, hend, -⟩ := s.testProfiles_at hn
  rw [hend, State.testProfile_of_mayTransfer hn (State.mayTransfer_congr hp (hu.only .detectors (by decide)) ▸ h), hp]

theorem State.testProfiles_of_not_mayTransfer {s : State} {n : Nat} (hn : n < 8) (h : ¬ s.mayTransfer n = true) :
    s.testProfiles.profile n = s.profile n := by
  obtain ⟨u, hu, hp, -, hend, -⟩ := s.testProfiles_at hn
  rw [hend, State.testProfile_of_not_mayTransfer (State.mayTransfer_congr hp (hu.only .detectors (by decide)) ▸ h), hp]

/-- A profile that transfers is reported when the queue had room for eight reports, or has not filled since. -/
theorem State.testProfiles_reported {s : State} {n : Nat} (hn : n < 8) (h : s.mayTransfer n = true)
    (hroom : s.roomFor 8 ∨ s.testProfiles.link.reports.length < 96) :
    ⟨s.now, .profileApplied n⟩ ∈ s.testProfiles.link.reports := by
  obtain ⟨u, hu, hp, hlen, -, hkeep⟩ := s.testProfiles_at hn
  have hnow : u.now = s.now := congrArg Clock.partTime (hu.only .clock (by decide))
  have hfits : u.link.reports.length < 96 := by
    obtain hr | hr := hroom
    · unfold State.roomFor at hr; omega
    · exact (((u.testProfile_keepsReports n).trans hkeep).length_le).trans_lt hr
  rw [← hnow]
  exact hkeep.subset
    (State.testProfile_reported (State.mayTransfer_congr hp (hu.only .detectors (by decide)) ▸ h) hfits)

/-! ## The end of a scan (R2) -/

/-- By `t` every profile due in `s`, judged by the detectors of `u`, has transferred and, where the report queue has not
filled, been reported; every other stands as in `s`. -/
def State.ProfilesTested (s u t : State) : Prop :=
  ∀ n < 8,
    ((s.profile n).flag = true ∧ ¬ u.ProfileHeld n →
      t.profile n = ⟨(s.profile n).pending, (s.profile n).pending, false⟩ ∧
        (t.link.reports.length < 95 → ⟨s.now, .profileApplied n⟩ ∈ t.link.outbox)) ∧
    ((s.profile n).flag = false ∨ u.ProfileHeld n → t.profile n = s.profile n)

theorem State.profileHeld_congr {s u : State} (h : u.detection.detectors = s.detection.detectors) (n : Nat) :
    u.ProfileHeld n ↔ s.ProfileHeld n := by
  simp only [State.ProfileHeld, State.detector, h]

theorem State.ProfilesTested.congr {s u v t : State} (hp : v.detection.profiles = s.detection.profiles)
    (hc : v.now = s.now) (hd : u.detection.detectors = v.detection.detectors) (h : v.ProfilesTested v t) :
    s.ProfilesTested u t := by
  simpa only [State.ProfilesTested, State.profile, hp, hc, State.profileHeld_congr hd] using h

theorem State.scanEnd_keepsReports (s : State) (l : LoopId) : s.testProfiles.KeepsReports (s.scanEnd l) :=
  State.doorsSeeScanEnd_keepsReports _ l

theorem State.scanEnd_profile (s : State) (l : LoopId) (n : Nat) : (s.scanEnd l).profile n = s.testProfiles.profile n :=
  (State.doorsSeeScanEnd_changes _ l).only.profile_eq (by decide) n

/-- An end of scan reports a profile that transfers when the queue had room for eight reports, or has not filled since. -/
theorem State.scanEnd_reported {s : State} {l : LoopId} {n : Nat} (hn : n < 8) (h : s.mayTransfer n = true)
    (hroom : s.roomFor 8 ∨ (s.scanEnd l).link.reports.length < 96) :
    ⟨s.now, .profileApplied n⟩ ∈ (s.scanEnd l).pump.link.outbox :=
  State.mem_pump_outbox <| (s.scanEnd_keepsReports l).subset <|
    State.testProfiles_reported hn h (hroom.imp_right ((s.scanEnd_keepsReports l).length_le.trans_lt ·))

theorem State.scanEnd_tested (s : State) (l : LoopId) : s.ProfilesTested s (s.scanEnd l).pump := by
  intro n hn
  have hprofile : (s.scanEnd l).pump.profile n = s.testProfiles.profile n :=
    ((State.pump_changes _).only.profile_eq (by decide) n).trans (s.scanEnd_profile l n)
  rw [hprofile]
  refine ⟨fun hdue => ?_, fun hstays => ?_⟩
  · have hmay := (s.mayTransfer_iff n).2 hdue
    refine ⟨State.testProfiles_of_mayTransfer hn hmay, fun hr => State.scanEnd_reported hn hmay (.inr ?_)⟩
    have := (s.scanEnd l).pump_reports_length
    omega
  · refine State.testProfiles_of_not_mayTransfer hn fun hmay => ?_
    obtain ⟨hflag, hfree⟩ := (s.mayTransfer_iff n).1 hmay
    obtain hoff | hheld := hstays
    · rw [hoff] at hflag; cases hflag
    · exact hfree hheld

theorem State.scanner_putScanner (s : State) (l : LoopId) (x : Scanner) : (s.putScanner l x).scanner l = x := by
  cases l <;> rfl

theorem State.advance_of_none {s : State} {l : LoopId} {q : Nat} (h : s.nextPoint l q = none) :
    s.advance l q = (s.putScanner l ⟨none, none⟩).scanEnd l := by
  simp only [State.advance, h]

theorem State.advance_detectors (s : State) (l : LoopId) (q : Nat) :
    (s.advance l q).pump.detection.detectors = s.detection.detectors :=
  ((State.pump_changes _).only .detectors (by decide)).trans ((s.advance_changes l q).only .detectors (by decide))

/-- A scanner that moves on from the last configured point of its loop has the profiles tested. -/
theorem State.advance_tested {s : State} {l : LoopId} {q : Nat} (h : s.nextPoint l q = none) :
    s.ProfilesTested s (s.advance l q).pump := by
  have hput := (s.putScanner_changes l ⟨none, none⟩).only
  rw [State.advance_of_none h]
  exact (State.scanEnd_tested _ l).congr (hput .profiles (by decide)) (congrArg Clock.partTime (hput .clock (by decide)))
    (hput .detectors (by decide)).symm

/-- The last exchange of a scan leaves none open. -/
theorem State.advance_exchange {s : State} {l : LoopId} {q : Nat} (h : s.nextPoint l q = none) :
    ((s.advance l q).pump.scanner l).exchange = none := by
  rw [State.advance_of_none h, (State.pump_changes _).only.scanner_eq (by decide),
    (State.scanEnd_changes _ l).only.scanner_eq (by decide), State.scanner_putScanner]

/-- With room for eight reports no profile that transfers goes unreported. -/
theorem State.advance_reported {s : State} {l : LoopId} {q n : Nat} (h : s.nextPoint l q = none) (hn : n < 8)
    (hmay : s.mayTransfer n = true) (hroom : s.roomFor 8) :
    ⟨s.now, .profileApplied n⟩ ∈ (s.advance l q).pump.link.outbox := by
  have hput := (s.putScanner_changes l ⟨none, none⟩).only
  have hnow : (s.putScanner l ⟨none, none⟩).now = s.now := congrArg Clock.partTime (hput .clock (by decide))
  rw [State.advance_of_none h, ← hnow]
  refine State.scanEnd_reported hn ?_ (.inl ?_)
  · rwa [State.mayTransfer_congr (hput.profile_eq (by decide) n) (hput .detectors (by decide))]
  · rwa [State.roomFor, (hput .reports (by decide)).1]

/-- A scanner that moves on to a further point leaves the profiles as they are. -/
theorem State.advance_profile {s : State} {l : LoopId} {q : Nat} (h : s.nextPoint l q ≠ none) (n : Nat) :
    (s.advance l q).pump.profile n = s.profile n := by
  obtain ⟨p, hp⟩ := Option.ne_none_iff_exists'.1 h
  rw [(State.pump_changes _).only.profile_eq (by decide), State.advance, hp]
  exact (State.putScanner_changes ..).only.profile_eq (by decide) n

/-! ## Exchanges leave the configuration of points as it was -/

theorem State.nextPoint_congr {s t : State} (h : ∀ p, (t.point p).cfg = (s.point p).cfg) (l : LoopId) (q : Nat) :
    t.nextPoint l q = s.nextPoint l q := by
  simp only [State.nextPoint, h]

theorem State.putPoint_cfg (s : State) (p : Nat) {x : Point} (h : x.cfg = (s.point p).cfg) (q : Nat) :
    ((s.putPoint p x).point q).cfg = (s.point q).cfg := by
  rw [State.point_putPoint]
  split
  · next hq => rw [h, hq.1]
  · rfl

theorem State.setHealth_cfg (s : State) (p : Nat) (h : Health) (q : Nat) :
    ((s.setHealth p h).point q).cfg = (s.point q).cfg := by
  let u : State := (((s.putPoint p { s.point p with health := h }).report (.pointState p h)).endHealth p
    (s.point p).health).raiseHealth p
  have hu : (u.point q).cfg = (s.point q).cfg :=
    ((State.raiseHealth_changes _ p).only.cfg_eq (by decide) q).trans <|
      ((State.endHealth_changes _ p _).only.cfg_eq (by decide) q).trans <|
      ((State.report_changes _ _).only.cfg_eq (by decide) q).trans <|
      s.putPoint_cfg p (by rfl) q
  unfold State.setHealth
  dsimp only
  split
  · rfl
  · split
    · exact ((State.ownerLoses_changes u p).only.cfg_eq (by decide) q).trans hu
    · exact hu

theorem State.goodReply_cfg (s : State) (p : Nat) (i : Input) (q : Nat) :
    ((s.goodReply p i).point q).cfg = (s.point q).cfg :=
  (State.setHealth_cfg _ p .normal q).trans <| (State.putPoint_cfg _ p (by rfl) q).trans <|
    ((State.deliver_changes _ p i).only.cfg_eq (by decide) q).trans <| State.putPoint_cfg s p (by rfl) q

theorem State.wrongReply_cfg (s : State) (p q : Nat) : ((s.wrongReply p).point q).cfg = (s.point q).cfg :=
  (State.setHealth_cfg _ p .wrongKind q).trans (State.putPoint_cfg s p (by rfl) q)

theorem State.miss_cfg (s : State) (p q : Nat) : ((s.miss p).point q).cfg = (s.point q).cfg := by
  unfold State.miss
  dsimp only
  split
  · exact (State.setHealth_cfg _ p .missing q).trans (State.putPoint_cfg s p (by rfl) q)
  · exact State.putPoint_cfg s p (by rfl) q

theorem State.takeAnswer_cfg (s : State) (p : Nat) (a : Answer) (q : Nat) :
    ((s.takeAnswer p a).point q).cfg = (s.point q).cfg := by
  cases a with
  | input i =>
    unfold State.takeAnswer
    dsimp only
    split
    · exact s.goodReply_cfg p i q
    · exact s.wrongReply_cfg p q
  | foreign => exact s.wrongReply_cfg p q

/-- What an end of exchange cannot move: part time, the profiles, the configuration of points. -/
structure State.SameForScan (s t : State) : Prop where
  now : t.now = s.now
  profiles : t.detection.profiles = s.detection.profiles
  cfg : ∀ p, (t.point p).cfg = (s.point p).cfg

theorem State.SameForScan.refl (s : State) : s.SameForScan s := ⟨rfl, rfl, fun _ => rfl⟩

theorem State.miss_sameForScan (s : State) (p : Nat) : s.SameForScan (s.miss p) :=
  have h := (s.miss_changes p).only
  ⟨congrArg Clock.partTime (h .clock (by decide)), h .profiles (by decide), s.miss_cfg p⟩

theorem State.takeAnswer_sameForScan (s : State) (p : Nat) (a : Answer) : s.SameForScan (s.takeAnswer p a) :=
  have h := (s.takeAnswer_changes p a).only
  ⟨congrArg Clock.partTime (h .clock (by decide)), h .profiles (by decide), s.takeAnswer_cfg p a⟩

theorem State.endExchange_advances {s : State} {l : LoopId} {e : Exchange} (he : (s.scanner l).exchange = some e)
    {f : State → Nat → State} (hf : ∀ (t : State) p, t.SameForScan (f t p)) :
    ∃ u, s.endExchange l f = u.advance l e.point ∧ s.SameForScan u := by
  refine ⟨if (s.point e.point).cfg.configured then f s e.point else s, ?_, ?_⟩
  · simp only [State.endExchange, he]
  · split
    · exact hf s e.point
    · exact .refl s

/-- Either end of an open exchange hands the scanner on from its point. -/
theorem exec_exchange_end {s : State} {l : LoopId} {e : Exchange} {i : Instr} (he : (s.scanner l).exchange = some e)
    (hi : i = .replyWindowExpiry l ∨ ∃ a, i = .pointReply l a) :
    ∃ u, exec i s = .next (u.advance l e.point).pump ∧ s.SameForScan u := by
  obtain rfl | ⟨a, rfl⟩ := hi
  · obtain ⟨u, hu, hs⟩ := State.endExchange_advances he State.miss_sameForScan
    exact ⟨u, congrArg done hu, hs⟩
  · obtain ⟨u, hu, hs⟩ := State.endExchange_advances he fun t p => t.takeAnswer_sameForScan p a
    exact ⟨u, congrArg done hu, hs⟩

theorem State.startScan_advances (s : State) (l : LoopId) :
    ∃ u, s.startScan l = u.advance l 0 ∧ ChangesOnly [.clock, .words, .signs] s u ∧ u.now = s.now := by
  have h (v : State) (hv : Changes [.clock] s v) (hnow : v.now = s.now) :
      ChangesOnly [.clock, .words, .signs] s (v.signsSeeScanStart l) ∧ (v.signsSeeScanStart l).now = s.now :=
    have hsee := v.signsSeeScanStart_changes l
    ⟨(hsee.after (by decide) (hv.mono (by decide))).only,
      (congrArg Clock.partTime (hsee.only .clock (by decide))).trans hnow⟩
  cases l
  · exact ⟨State.signsSeeScanStart { s with clock.scanA := Config.ticksPerScan } .a, rfl,
      h _ (Changes.clock_scanA s _) rfl⟩
  · exact ⟨State.signsSeeScanStart { s with clock.scanB := Config.ticksPerScan } .b, rfl,
      h _ (Changes.clock_scanB s _) rfl⟩

theorem exec_scanStart {s : State} {l : LoopId} (h : (s.scanner l).exchange = none) :
    exec (.scanStart l) s = .next (s.startScan l).pump := by
  show done (if (s.scanner l).exchange.isSome then s else s.startScan l) = _
  rw [h]; rfl

/-! ## CFG_PROFILE (R28) -/

theorem State.reply_pump_changesOnly (s : State) (i : Instr) (st : Status) (b : ReplyBody) :
    ChangesOnly [.reports, .replies] s (s.reply i st b).pump :=
  ((State.pump_changes _).after (by decide) ((s.reply_changes i st b).mono (by decide))).only

theorem State.reply_pump_sendsNoReport (s : State) (i : Instr) (st : Status) (b : ReplyBody) :
    s.sendsNoReport (s.reply i st b).pump := by
  rw [State.sendsNoReport, State.pump_outbox, State.reply, State.answer_outbox]

theorem State.reply_pump_replies {s : State} (h : s.link.free = true) (i : Instr) (st : Status) (b : ReplyBody) :
    (s.reply i st b).pump.replies i st b := by
  obtain ⟨-, -, hsending, -⟩ := (Link.free_iff _).1 h
  rw [State.replies, State.pump_replying, State.reply, State.answer_replying _ _ _ _ _ hsending]

/-- The five values R28 gives for those asked, `w` for `v`, and the ranges they stand in. -/
theorem profileInRange_spec (v : ProfileValues) :
    let w := profileInRange v
    w.k = clamp 1 20 v.k ∧ w.h = clamp 40 255 v.h ∧ w.r = clamp 0 40 v.r ∧
      (v.p < 255 → w.p = clamp 33 255 v.p ∧ w.a = max (clamp 34 255 v.a) (w.p + 1)) ∧
      (255 ≤ v.p → w.p = 254 ∧ w.a = 255) ∧ 33 ≤ w.p ∧ w.p ≤ 254 ∧ w.p + 1 ≤ w.a ∧ w.a ≤ 255 := by
  obtain ⟨ha, ha'⟩ := clamp_bounds (lo := 34) (hi := 255) (n := v.a) (by decide)
  obtain hp | hp := Nat.lt_or_ge v.p 255
  · have hlow : 33 ≤ clamp 33 255 v.p ∧ clamp 33 255 v.p < 255 := by unfold clamp; split_ifs <;> omega
    simp only [profileInRange, if_neg hlow.2.ne, true_and]
    split <;> omega
  · have htop : clamp 33 255 v.p = 255 := by unfold clamp; split_ifs <;> omega
    simp only [profileInRange, htop, ↓reduceIte, Nat.reduceLeDiff, true_and, implies_true, and_true]
    omega

theorem clampStatus_profile (w v : ProfileValues) : clampStatus (w != v) = if w = v then .ok else .okClamped := by
  by_cases h : w = v <;> simp [clampStatus, h]

theorem serveCfgProfile_refused {s : State} {st : Status} (h : s.cfgRefusal = some st) (tag : Byte) (n : Nat)
    (v : ProfileValues) : serveCfgProfile tag n v s = s.reply (.cfgProfile tag n v) st .none := by
  simp only [serveCfgProfile, h]; rfl

theorem serveCfgProfile_noObject {s : State} {n : Nat} (h : s.cfgRefusal = none) (hn : 7 < n) (tag : Byte)
    (v : ProfileValues) : serveCfgProfile tag n v s = s.reply (.cfgProfile tag n v) .noObject .none := by
  simp only [serveCfgProfile, h, if_pos hn]; rfl

theorem serveCfgProfile_taken {s : State} {n : Nat} (h : s.cfgRefusal = none) (hn : ¬ 7 < n) (tag : Byte)
    (v : ProfileValues) : serveCfgProfile tag n v s =
      (s.putProfile n { s.profile n with pending := profileInRange v, flag := true }).reply (.cfgProfile tag n v)
        (if profileInRange v = v then .ok else .okClamped) (.profile (profileInRange v)) := by
  simp only [serveCfgProfile, h, if_neg hn, clampStatus_profile]

/-- CFG_PROFILE on a free port answers with what its service leaves. -/
theorem exec_cfgProfile {s : State} (h : s.link.free = true) (tag : Byte) (n : Nat) (v : ProfileValues) :
    exec (.cfgProfile tag n v) s = .next (serveCfgProfile tag n v s).pump :=
  request_free _ _ s h

/-- A request that is only answered sends its one reply, and moves nothing else. -/
theorem State.reply_pump_answers {s : State} (h : s.link.free = true) (i : Instr) (st : Status) (b : ReplyBody) :
    s.sendsNoReport (s.reply i st b).pump ∧ (s.reply i st b).pump.replies i st b ∧
      ChangesOnly [.reports, .replies] s (s.reply i st b).pump :=
  ⟨s.reply_pump_sendsNoReport i st b, State.reply_pump_replies h i st b, s.reply_pump_changesOnly i st b⟩

/-- A CFG_PROFILE that is taken replies the values in range, written to the pending copy alone (R28). -/
theorem cfgProfile_taken {n : Nat} {s : State} (hfree : s.link.free = true) (h : s.cfgRefusal = none) (hn : ¬ 7 < n)
    (tag : Byte) (v : ProfileValues) :
    let i := Instr.cfgProfile tag n v
    let w := profileInRange v
    let t := (serveCfgProfile tag n v s).pump
    s.sendsNoReport t ∧ t.replies i (if w = v then .ok else .okClamped) (.profile w) ∧
      ChangesOnly [.profiles, .reports, .replies] s t ∧
      t.profile n = { s.profile n with pending := w, flag := true } ∧ ∀ m, m ≠ n → t.profile m = s.profile m := by
  dsimp only
  rw [serveCfgProfile_taken h hn]
  let x : Profile := { s.profile n with pending := profileInRange v, flag := true }
  obtain ⟨hquiet, hreply, honly⟩ := State.reply_pump_answers (s := s.putProfile n x) hfree (.cfgProfile tag n v)
    (if profileInRange v = v then .ok else .okClamped) (.profile (profileInRange v))
  have hput : ChangesOnly [.profiles] s (s.putProfile n x) := (s.putProfile_changes n x).only
  refine ⟨hquiet, hreply, (hput.mono (by decide)).trans (honly.mono (by decide)), ?_, fun m hm => ?_⟩
  · exact (honly.profile_eq (by decide) n).trans (s.profile_putProfile (by omega) x)
  · exact (honly.profile_eq (by decide) m).trans (s.profile_putProfile_ne hm.symm x)

/-! ## The starts and ends of scans as commands -/

/-- SCAN_START on a loop with no configured point is an end of scan (R2). -/
theorem scanStart_emptyLoop {l : LoopId} {s : State} (hopen : (s.scanner l).exchange = none)
    (hnone : s.nextPoint l 0 = none) :
    ∃ t, exec (.scanStart l) s = .next t ∧ s.ProfilesTested s t ∧ (t.scanner l).exchange = none ∧
      (s.roomFor 8 → ∀ n < 8, (s.profile n).flag = true ∧ ¬ s.ProfileHeld n →
        ⟨s.now, .profileApplied n⟩ ∈ t.link.outbox) := by
  obtain ⟨u, hu, hsame, hnow⟩ := s.startScan_advances l
  have hlast : u.nextPoint l 0 = none := (State.nextPoint_congr (hsame.cfg_eq (by decide)) l 0).trans hnone
  have hdet : u.detection.detectors = s.detection.detectors := hsame .detectors (by decide)
  refine ⟨_, exec_scanStart hopen, ?_⟩
  rw [hu]
  refine ⟨(State.advance_tested hlast).congr (hsame .profiles (by decide)) hnow hdet.symm,
    State.advance_exchange hlast, fun hroom n hn hdue => ?_⟩
  rw [← hnow]
  refine State.advance_reported hlast hn ?_ ?_
  · rw [State.mayTransfer_congr (hsame.profile_eq (by decide) n) hdet]
    exact (s.mayTransfer_iff n).2 hdue
  · rwa [State.roomFor, (hsame .reports (by decide)).1]

/-- The end of an exchange, by an answer or without one: of the last of its scan, the end of the scan (R2). -/
theorem exchange_end_outcome {l : LoopId} {s : State} {e : Exchange} {i : Instr}
    (hopen : (s.scanner l).exchange = some e) (hi : i = .replyWindowExpiry l ∨ ∃ a, i = .pointReply l a) :
    (s.nextPoint l e.point = none →
      ∃ t, exec i s = .next t ∧ s.ProfilesTested t t ∧ (t.scanner l).exchange = none) ∧
    (s.nextPoint l e.point ≠ none → ∃ t, exec i s = .next t ∧ ∀ n, t.profile n = s.profile n) := by
  obtain ⟨u, hu, hnow, hprofiles, hcfg⟩ := exec_exchange_end hopen hi
  have hnext : u.nextPoint l e.point = s.nextPoint l e.point := State.nextPoint_congr hcfg l e.point
  refine ⟨fun hlast => ⟨_, hu, ?_⟩, fun hmore => ⟨_, hu, fun n => ?_⟩⟩
  · rw [← hnext] at hlast
    exact ⟨(State.advance_tested hlast).congr hprofiles hnow (u.advance_detectors l e.point),
      State.advance_exchange hlast⟩
  · rw [← hnext] at hmore
    exact (State.advance_profile hmore n).trans (congrArg (Table.get · n) hprofiles)

/-- Settles O26: CFG_PROFILE by the outcome of its service, the ends of scan by the test of each profile in its turn,
which no operation after it in the same step undoes. -/
theorem profilesChangeAtEndOfScan : Obligations.ProfilesChangeAtEndOfScan := by
  refine ⟨fun tag n v s hfree => ?_, fun l s => ⟨scanStart_emptyLoop, fun e i => exchange_end_outcome⟩⟩
  refine ⟨_, exec_cfgProfile hfree tag n v, ?_⟩
  by_cases hevac : s.evacuate = true
  · rw [if_pos hevac, serveCfgProfile_refused (if_pos hevac)]
    exact State.reply_pump_answers hfree _ _ _
  have hnoevac : s.cfgRefusal = if s.store.saving.isSome then some .busy else none := if_neg hevac
  by_cases hsaving : s.store.saving.isSome = true
  · rw [if_neg hevac, if_pos hsaving, serveCfgProfile_refused (hnoevac.trans (if_pos hsaving))]
    exact State.reply_pump_answers hfree _ _ _
  have hopen : s.cfgRefusal = none := hnoevac.trans (if_neg hsaving)
  by_cases hn : 7 < n
  · rw [if_neg hevac, if_neg hsaving, if_pos hn, serveCfgProfile_noObject hopen hn]
    exact State.reply_pump_answers hfree _ _ _
  · rw [if_neg hevac, if_neg hsaving, if_neg hn]
    obtain ⟨hquiet, hreply, honly, hself, hothers⟩ := cfgProfile_taken hfree hopen hn tag v
    exact ⟨hquiet, profileInRange v, hreply, honly, hself, hothers, profileInRange_spec v⟩

end Sys2Proof.Machine
end

section
/-! PROOFS. SILENCE and RESOUND (R56 to R58): what a change of the silenced flag leaves, reports and sounds. -/

namespace Sys2Proof.Machine

/-! ## What the fire condition is read from -/

theorem State.anyConfirmed_congr {s t : State} (h : t.fire.zones = s.fire.zones) : t.anyConfirmed = s.anyConfirmed := by
  rw [State.anyConfirmed, h, State.anyConfirmed]

theorem ChangesOnly.anyConfirmed_eq {ps : List Part} {s t : State} (h : ChangesOnly ps s t) (hz : Part.zones ∉ ps) :
    t.anyConfirmed = s.anyConfirmed := State.anyConfirmed_congr (h .zones hz)

theorem ChangesOnly.evacIn_eq {ps : List Part} {s t : State} (h : ChangesOnly ps s t) (hl : Part.lines ∉ ps) :
    t.fire.evacIn = s.fire.evacIn := (h .lines hl).1

theorem ChangesOnly.evacuate_eq {ps : List Part} {s t : State} (h : ChangesOnly ps s t) (hz : Part.zones ∉ ps)
    (hl : Part.lines ∉ ps) : t.evacuate = s.evacuate := by
  rw [State.evacuate, h.anyConfirmed_eq hz, h.evacIn_eq hl, State.evacuate]

/-! ## The silenced flag (R56) -/

theorem State.setSilenced_of_eq {s : State} {b : Bool} (h : s.fire.silenced = b) : s.setSilenced b = s := if_pos h

theorem State.setSilenced_of_ne {s : State} {b : Bool} (h : s.fire.silenced ≠ b) :
    s.setSilenced b = State.reportEvacuation { s with fire.silenced := b } := if_neg h

@[simp] theorem State.setSilenced_silenced (s : State) (b : Bool) : (s.setSilenced b).fire.silenced = b := by
  by_cases h : s.fire.silenced = b
  · rw [State.setSilenced_of_eq h, h]
  · simp [State.setSilenced_of_ne h, State.reportEvacuation]

/-- Moving the silenced flag hands the link no reply and starts none on its way. -/
@[simp] theorem State.setSilenced_link_free (s : State) (b : Bool) : (s.setSilenced b).link.free = s.link.free := by
  by_cases h : s.fire.silenced = b
  · rw [State.setSilenced_of_eq h]
  · simp [State.setSilenced_of_ne h, State.reportEvacuation, Link.free, Link.serving]

/-- A change of the silenced flag is reported, with the flag as it now is (R56). -/
theorem State.setSilenced_outbox {s : State} {b : Bool} (h : s.fire.silenced ≠ b) (hroom : s.roomFor 1) :
    (s.setSilenced b).link.outbox =
      s.link.outbox ++ [⟨s.now, .evacuation s.evacuate s.anyConfirmed s.fire.evacIn.level b⟩] := by
  rw [State.setSilenced_of_ne h]
  exact State.report_outbox { s with fire.silenced := b } _ hroom

/-- A request that brings the silenced flag to `b`, taken: the reply, the flag, the sounders, and the report of a change
(R56 to R58). -/
theorem State.setSilenced_taken {s : State} (hfree : s.link.free = true) (i : Instr) (b : Bool) :
    let t := ((s.setSilenced b).accept i).pump
    t.replies i .ok .none ∧ t.fire.silenced = b ∧ t.sounderOut = (s.evacuate && !b) ∧
      (s.fire.silenced = b → ChangesOnly [.reports, .replies] s t ∧ s.sendsNoReport t) ∧
      (s.fire.silenced ≠ b → ChangesOnly [.silenced, .reports, .replies] s t ∧
        (s.roomFor 1 → s.reportsAll t [.evacuation s.evacuate s.anyConfirmed s.fire.evacIn.level b])) := by
  dsimp only
  obtain ⟨hquiet, hreply, honly⟩ :=
    State.reply_pump_answers (s := s.setSilenced b) (by rw [State.setSilenced_link_free, hfree]) i .ok .none
  have hflag : ((s.setSilenced b).accept i).pump.fire.silenced = b :=
    (honly .silenced (by decide)).trans (s.setSilenced_silenced b)
  have hall : ChangesOnly [.silenced, .reports, .replies] s ((s.setSilenced b).accept i).pump :=
    ((s.setSilenced_changes b).only.mono (by decide)).trans (honly.mono (by decide))
  refine ⟨hreply, hflag, ?_, fun hsame => ?_, fun hmoved => ⟨hall, fun hroom => ?_⟩⟩
  · rw [State.sounderOut, hflag, hall.evacuate_eq (by decide) (by decide)]
  · rw [State.setSilenced_of_eq hsame] at honly hquiet ⊢
    exact ⟨honly, hquiet⟩
  · exact Eq.trans hquiet (State.setSilenced_outbox hmoved hroom)

/-- Settles O30: RESOUND, and SILENCE while EVACUATE is active, are taken requests for one value of the flag; SILENCE
without EVACUATE is only answered. -/
theorem silenceAndResoundMoveTheFlagAlone : Obligations.SilenceAndResoundMoveTheFlagAlone := by
  intro tag s hfree
  refine ⟨fun hevac => ?_, fun hevac => ?_, ?_⟩
  · have hserve : serveSilence tag s = (s.setSilenced true).accept (.silence tag) := by
      simp [serveSilence, hevac]
    have htaken := State.setSilenced_taken hfree (.silence tag) true
    rw [hevac] at htaken ⊢
    exact ⟨_, request_free (.silence tag) (serveSilence tag) s hfree, hserve ▸ htaken⟩
  · have hserve : serveSilence tag s = s.reply (.silence tag) .wrongState .none := by
      simp [serveSilence, hevac, State.refuse]
    obtain ⟨hquiet, hreply, honly⟩ := State.reply_pump_answers hfree (.silence tag) .wrongState .none
    rw [← hserve] at hquiet hreply honly
    exact ⟨_, request_free (.silence tag) (serveSilence tag) s hfree, honly, hreply, hquiet⟩
  · exact ⟨_, request_free (.resound tag) (serveResound tag) s hfree,
      State.setSilenced_taken hfree (.resound tag) false⟩

end Sys2Proof.Machine
end

section
/-! PROOFS. The fire state after start and the first EVAC_IN after it (R63): the hand-offs of EVACUATE lose no queued report,
a start leaves no zone CONFIRMED and no EVACUATION report, and the third sample of an active EVAC_IN takes its level. -/

namespace Sys2Proof.Machine

/-! ## What an untouched part tells of its readings -/

theorem ChangesOnly.mainsOk_eq {ps : List Part} {s t : State} (h : ChangesOnly ps s t) (hl : Part.lines ∉ ps) :
    t.fire.mainsOk = s.fire.mainsOk := (h .lines hl).2

theorem ChangesOnly.silenced_eq {ps : List Part} {s t : State} (h : ChangesOnly ps s t) (hf : Part.silenced ∉ ps) :
    t.fire.silenced = s.fire.silenced := h .silenced hf

theorem ChangesOnly.alarms_eq {ps : List Part} {s t : State} (h : ChangesOnly ps s t) (ha : Part.alarms ∉ ps) :
    t.alarms = s.alarms := h .alarms ha

theorem ChangesOnly.now_eq {ps : List Part} {s t : State} (h : ChangesOnly ps s t) (hc : Part.clock ∉ ps) :
    t.now = s.now := congrArg Clock.partTime (h .clock hc)

/-! ## The hand-offs of EVACUATE lose no queued report -/

theorem State.doorEvent_keepsReports {f : State → State} (hf : ∀ t : State, t.KeepsReports (f t)) (s : State) (d : Nat)
    (ev : DoorShown → DoorShown → DoorEvent) : s.KeepsReports (s.doorEvent d ev f) := by
  unfold State.doorEvent
  dsimp only
  split
  · exact hf s
  · exact (hf s).trans (State.reportDoor_keepsReports _ _ _)

theorem State.writeHolder_keepsReports (s : State) (d : Nat) : s.KeepsReports (s.writeHolder d) :=
  (s.writeHolder_changes d).keepsReports (by decide)

theorem State.emptySlot_keepsReports (s : State) (q : Nat) (result : PassResult) :
    s.KeepsReports (s.emptySlot q result) := by
  unfold State.emptySlot
  split
  · exact ((s.putPair_changes _ _).keepsReports (by decide)).trans (State.report_keepsReports _ _)
  · exact .refl s

theorem State.emptySlots_keepsReports (s : State) : s.KeepsReports s.emptySlots :=
  State.each_keepsReports (fun q t => t.emptySlot_keepsReports q _) _ s

theorem State.doorsSeeEvacuate_keepsReports (s : State) : s.KeepsReports s.doorsSeeEvacuate := by
  have hlatch : s.KeepsReports { s with doors.latchEvac := true } :=
    (Changes.doors_latchEvac s true).keepsReports (by decide)
  unfold State.doorsSeeEvacuate
  split
  · refine .trans (.trans ?_ (State.each_keepsReports (fun d t => t.doorEvent_keepsReports (fun u => ?_) d _) _ _))
      (State.emptySlots_keepsReports _)
    · split
      · exact hlatch
      · exact hlatch.trans (State.report_keepsReports _ _)
    · refine .trans ?_ (State.writeHolder_keepsReports _ d)
      split
      · exact u.changeDoor_keepsReports d _ false
      · exact .refl u
  · exact State.each_keepsReports (fun d t => t.doorEvent_keepsReports (fun u => u.writeHolder_keepsReports d) d _) _ s

theorem State.doorsSeeMode_keepsReports (s : State) (g : Nat) : s.KeepsReports (s.doorsSeeMode g) :=
  State.each_keepsReports (fun d t => t.doorEvent_keepsReports
    (fun u => (u.changeDoor_keepsReports d _ false).trans (State.writeHolder_keepsReports _ d)) d _) _ s

theorem State.refreshLamps_keepsReports (s : State) : s.KeepsReports s.refreshLamps :=
  s.refreshLamps_changes.keepsReports (by decide)

theorem State.changeGroup_keepsReports (s : State) (g : Nat) (x : Group) (cause : ModeCause) :
    s.KeepsReports (s.changeGroup g x cause) := by
  have hput : s.KeepsReports (s.putGroup g x) := (s.putGroup_changes g x).keepsReports (by decide)
  unfold State.changeGroup
  dsimp only
  split
  · exact hput
  · exact ((hput.trans (State.report_keepsReports _ _)).trans (State.doorsSeeMode_keepsReports _ g)).trans
      (State.refreshLamps_keepsReports _)

theorem State.failSetting_keepsReports (s : State) (g : Nat) (reason : FailReason) :
    s.KeepsReports (s.failSetting g reason) :=
  (s.changeGroup_keepsReports g _ _).trans (State.report_keepsReports _ _)

/-- The beginning of EVACUATE fails each procedure that runs (R87). -/
theorem State.groupsSeeEvacuate_keepsReports {s : State} (h : s.evacuate = true) : s.KeepsReports s.groupsSeeEvacuate := by
  refine State.each_keepsReports (fun g t => ?_) _ s
  rw [if_pos h]
  split
  · exact t.failSetting_keepsReports g _
  · exact .refl t

theorem State.changeCall_keepsReports (s : State) (r : Call) (cause : CallCause) :
    s.KeepsReports (s.changeCall r cause) :=
  (((s.putCall_changes r).keepsReports (by decide)).trans
    ((State.writeCall_changes _ r.point).keepsReports (by decide))).trans (State.report_keepsReports _ _)

theorem State.offerOnce_keepsReports (s : State) : s.KeepsReports s.offerOnce := by
  unfold State.offerOnce
  split
  · exact s.changeCall_keepsReports _ _
  · exact .refl s

theorem State.arbitrate_keepsReports (s : State) : s.KeepsReports s.arbitrate :=
  s.offerOnce_keepsReports.trans (State.offerOnce_keepsReports _)

theorem State.preemptOnce_keepsReports (s : State) : s.KeepsReports s.preemptOnce := by
  unfold State.preemptOnce
  split
  · split
    · exact (s.changeCall_keepsReports _ _).trans (State.arbitrate_keepsReports _)
    · exact .refl s
  · exact .refl s

theorem State.callsSeeEvacuate_keepsReports (s : State) : s.KeepsReports s.callsSeeEvacuate :=
  (s.arbitrate_keepsReports.trans (State.preemptOnce_keepsReports _)).trans (State.preemptOnce_keepsReports _)

theorem State.abandonTest_keepsReports (s : State) (g : Nat) : s.KeepsReports (s.abandonTest g) :=
  ((((s.putLampGroup_changes g _).keepsReports (by decide)).trans
    ((State.eachLampOf_changes _ g _).keepsReports (by decide))).trans (State.refreshLamps_keepsReports _)).trans
    (State.report_keepsReports _ _)

theorem State.lampsSeeEvacuate_keepsReports (s : State) : s.KeepsReports s.lampsSeeEvacuate := by
  have habandon : s.KeepsReports s.abandonTests := State.each_keepsReports (fun g t => by
    split
    · exact t.abandonTest_keepsReports g
    · exact .refl t) _ s
  unfold State.lampsSeeEvacuate
  split
  · exact habandon.trans (State.refreshLamps_keepsReports _)
  · exact s.refreshLamps_keepsReports

/-- The beginning of EVACUATE, handed on, keeps every report that waits. -/
theorem State.handEvacuate_keepsReports {s : State} (h : s.evacuate = true) : s.KeepsReports s.handEvacuate := by
  have hdoors : s.doorsSeeEvacuate.evacuate = true :=
    (s.doorsSeeEvacuate_changes.only.evacuate_eq (by decide) (by decide)).trans h
  exact ((((s.doorsSeeEvacuate_keepsReports.trans (State.groupsSeeEvacuate_keepsReports hdoors)).trans
    ((State.guardSeesEvacuate_changes _).keepsReports (by decide))).trans
    (State.callsSeeEvacuate_keepsReports _)).trans (State.reroute_keepsReports _ _)).trans
    (State.lampsSeeEvacuate_keepsReports _)

/-! ## What a raise places and reports (R65, R66, R71) -/

/-- With room in its class, a raised condition has an entry that waits to be accepted. -/
theorem Alarms.raised_entry {a : Alarms} {k : AlarmKind} (h : a.room (kindClass k) = true) (now : Nat) (active : Bool)
    (o : Obj) : ∃ e ∈ (a.raised now active k o).entries, e.kind = k ∧ e.obj = o ∧ e.active = active ∧
      e.accepted = false ∧ e.last = now := by
  unfold Alarms.raised
  split
  · next i hi =>
    obtain ⟨e, he, hid⟩ := Alarms.find_some hi
    obtain ⟨hlt, -⟩ := List.getElem?_eq_some_iff.1 he
    obtain ⟨hk, ho⟩ := Prod.mk.inj hid
    refine ⟨_, List.mem_set hlt _, ?_⟩
    rw [Alarms.entry_at he]
    exact ⟨hk, ho, rfl, rfl, rfl⟩
  · rw [if_pos h]
    exact ⟨_, List.mem_append_right _ (List.mem_singleton_self _), rfl, rfl, rfl, rfl, rfl⟩

/-- A raise hands the link one ALARM_ENTRY, and nothing else (R71). -/
theorem State.raise_eq_alarmEntry (s : State) (k : AlarmKind) (o : Obj) : ∃ change place entry gone,
    s.raise k o = State.report { s with alarms := s.alarms.raised s.now true k o }
      (.alarmEntry change k o place entry gone) := by
  unfold State.raise State.raiseAs Alarms.raised
  cases s.alarms.find k o with
  | some i => exact ⟨_, _, _, _, rfl⟩
  | none =>
    dsimp only
    split
    · exact ⟨_, _, _, _, rfl⟩
    · exact ⟨_, _, _, _, rfl⟩

theorem State.raise_alarms (s : State) (k : AlarmKind) (o : Obj) :
    (s.raise k o).alarms = s.alarms.raised s.now true k o := by
  obtain ⟨_, _, _, _, h⟩ := s.raise_eq_alarmEntry k o
  rw [h, State.report_alarms]

theorem State.raise_outbox {s : State} (h : s.link.reports.length < 96) (k : AlarmKind) (o : Obj) :
    ∃ change place entry gone, (s.raise k o).link.outbox =
      s.link.outbox ++ [⟨s.now, .alarmEntry change k o place entry gone⟩] := by
  obtain ⟨_, _, _, _, hraise⟩ := s.raise_eq_alarmEntry k o
  rw [hraise]
  exact ⟨_, _, _, _, State.report_outbox { s with alarms := s.alarms.raised s.now true k o } _ h⟩

theorem State.raise_reports_length (s : State) (k : AlarmKind) (o : Obj) :
    (s.raise k o).link.reports.length ≤ s.link.reports.length + 1 := by
  obtain ⟨_, _, _, _, h⟩ := s.raise_eq_alarmEntry k o
  rw [h]
  exact State.report_reports_length { s with alarms := s.alarms.raised s.now true k o } _

/-! ## EVACUATE begins by the line (R53, R54) -/

/-- The line of EVAC_IN becomes active while EVACUATE is not: EVAC_INPUT is raised, EVACUATION reported, EVACUATE handed on. -/
theorem State.takeEvacIn_begins {s : State} (h : s.evacuate = false) : s.takeEvacIn true =
    ((({ s with fire.evacIn := ⟨true, 0⟩ } : State).raise .evacInput .none).reportEvacuation).handEvacuate := by
  have hbegins : (({ s with fire.evacIn := ⟨true, 0⟩ } : State).raise .evacInput .none).evacuate = true := by
    rw [(State.raise_changes _ _ _).only.evacuate_eq (by decide) (by decide)]
    exact Bool.or_true _
  have hreported := (State.reportEvacuation_changes
    (({ s with fire.evacIn := ⟨true, 0⟩ } : State).raise .evacInput .none)).only.evacuate_eq (by decide) (by decide)
  simp [State.takeEvacIn, State.recomputeEvacuate, h, hbegins, hreported]

theorem State.handEvacuate_reported_changes (s : State) : ChangesOnly [.words, .regimes, .doors, .latch, .pairs, .quiet,
    .calls, .exits, .signs, .lamps, .lampGroups, .reports] s s.reportEvacuation.handEvacuate :=
  (s.reportEvacuation_changes.only.mono (by decide)).trans (State.handEvacuate_changes _).only

/-- The EVACUATION report of a beginning of EVACUATE joins the queue before the hand-offs, which leave it there. -/
theorem State.handEvacuate_reported {s : State} (h : s.evacuate = true) (hroom : s.link.reports.length < 96) :
    ⟨s.now, .evacuation true s.anyConfirmed s.fire.evacIn.level s.fire.silenced⟩ ∈
      s.reportEvacuation.handEvacuate.link.reports := by
  have hreported : s.reportEvacuation.evacuate = true :=
    (s.reportEvacuation_changes.only.evacuate_eq (by decide) (by decide)).trans h
  rw [← h]
  exact (State.handEvacuate_keepsReports hreported).subset (State.mem_report_reports _ hroom)

/-- What the beginning of EVACUATE by the line leaves of the lines, the alarm list, part time and the report queue. -/
theorem State.takeEvacIn_begun {s : State} (h : s.evacuate = false) :
    let t := s.takeEvacIn true
    t.fire.evacIn = ⟨true, 0⟩ ∧ t.fire.mainsOk = s.fire.mainsOk ∧ t.evacuate = true ∧ t.now = s.now ∧
      t.alarms = s.alarms.raised s.now true .evacInput .none ∧
      (s.roomFor 2 → ⟨s.now, .evacuation true s.anyConfirmed true s.fire.silenced⟩ ∈ t.link.reports) := by
  dsimp only
  let u : State := { s with fire.evacIn := ⟨true, 0⟩ }
  have hraise := (u.raise_changes .evacInput .none).only
  have hline : (u.raise .evacInput .none).fire.evacIn = ⟨true, 0⟩ := hraise.evacIn_eq (by decide)
  have hmains : (u.raise .evacInput .none).fire.mainsOk = s.fire.mainsOk := hraise.mainsOk_eq (by decide)
  have hevac : (u.raise .evacInput .none).evacuate = true :=
    (hraise.evacuate_eq (by decide) (by decide)).trans (Bool.or_true _)
  have hnow : (u.raise .evacInput .none).now = s.now := hraise.now_eq (by decide)
  have hconfirmed : (u.raise .evacInput .none).anyConfirmed = s.anyConfirmed := hraise.anyConfirmed_eq (by decide)
  have hflag : (u.raise .evacInput .none).fire.silenced = s.fire.silenced := hraise.silenced_eq (by decide)
  have halarms : (u.raise .evacInput .none).alarms = s.alarms.raised s.now true .evacInput .none :=
    u.raise_alarms .evacInput .none
  have hlength : (u.raise .evacInput .none).link.reports.length ≤ s.link.reports.length + 1 :=
    u.raise_reports_length .evacInput .none
  have hbegins : s.takeEvacIn true = (u.raise .evacInput .none).reportEvacuation.handEvacuate :=
    State.takeEvacIn_begins h
  rw [hbegins]
  generalize u.raise .evacInput .none = w at hline hmains hevac hnow hconfirmed hflag halarms hlength ⊢
  have hhand := w.handEvacuate_reported_changes
  refine ⟨(hhand.evacIn_eq (by decide)).trans hline, (hhand.mainsOk_eq (by decide)).trans hmains,
    (hhand.evacuate_eq (by decide) (by decide)).trans hevac, (hhand.now_eq (by decide)).trans hnow,
    (hhand.alarms_eq (by decide)).trans halarms, fun hroom => ?_⟩
  have hreported := State.handEvacuate_reported hevac (by rw [State.roomFor] at hroom; omega)
  rwa [hnow, hconfirmed, hline, hflag] at hreported

/-! ## Samples of an active EVAC_IN before EVACUATE (R52) -/

/-- Nothing holds EVACUATE, the filter of EVAC_IN has counted `n` active samples, and the alarm list and the report queue have
room for what the third will bring. -/
structure State.AwaitsEvacIn (n : Nat) (s : State) : Prop where
  evacIn : s.fire.evacIn = ⟨false, n⟩
  mainsOk : s.fire.mainsOk = ⟨true, 0⟩
  noneConfirmed : s.anyConfirmed = false
  flag : s.fire.silenced = false
  pool : s.alarms.room .fire = true
  queue : s.link.outbox.length + 2 ≤ 96

theorem State.AwaitsEvacIn.evacuate_eq {n : Nat} {s : State} (h : s.AwaitsEvacIn n) : s.evacuate = false := by
  rw [State.evacuate, h.noneConfirmed, h.evacIn]; rfl

theorem State.reports_length_le_outbox (s : State) : s.link.reports.length ≤ s.link.outbox.length := by
  rw [Link.outbox, List.length_append]; omega

theorem State.AwaitsEvacIn.roomFor {n : Nat} {s : State} (h : s.AwaitsEvacIn n) : s.roomFor 2 :=
  Nat.le_trans (Nat.add_le_add_right s.reports_length_le_outbox 2) h.queue

theorem State.sampleEvacIn_counts {s : State} {n : Nat} (h : s.fire.evacIn = ⟨false, n⟩) (hn : n < 2) :
    s.sampleEvacIn true = { s with fire.evacIn := ⟨false, n + 1⟩ } := by
  unfold State.sampleEvacIn
  rw [h]
  exact (if_neg Bool.noConfusion).trans (if_pos (Nat.succ_lt_succ hn))

theorem State.sampleEvacIn_takes {s : State} (h : s.fire.evacIn = ⟨false, 2⟩) :
    s.sampleEvacIn true = s.takeEvacIn true := by
  unfold State.sampleEvacIn
  rw [h]
  exact (if_neg Bool.noConfusion).trans (if_neg (by decide))

/-- A sample that agrees with a line whose count is 0 changes nothing. -/
theorem State.sampleMainsOk_same {s : State} {level : Bool} (h : s.fire.mainsOk = ⟨level, 0⟩) :
    s.sampleMainsOk level = s := by
  have hcount : (⟨s.fire.mainsOk.level, 0⟩ : LineFilter) = s.fire.mainsOk := by rw [h]
  unfold State.sampleMainsOk
  dsimp only
  rw [if_pos (by rw [h]), hcount]

/-- The choice of the next frame leaves the wait for EVAC_IN as it was. -/
theorem State.AwaitsEvacIn.pump {n : Nat} {s : State} (h : s.AwaitsEvacIn n) : s.pump.AwaitsEvacIn n where
  evacIn := by rw [State.pump_fire, h.evacIn]
  mainsOk := by rw [State.pump_fire, h.mainsOk]
  noneConfirmed := (State.anyConfirmed_congr (congrArg Fire.zones s.pump_fire)).trans h.noneConfirmed
  flag := by rw [State.pump_fire, h.flag]
  pool := by rw [State.pump_alarms, h.pool]
  queue := by rw [State.pump_outbox]; exact h.queue

/-- The first two active samples are only counted. -/
theorem State.AwaitsEvacIn.counts {n : Nat} {s : State} (h : s.AwaitsEvacIn n) (hn : n < 2) :
    ∃ t, exec (.lineInputSample true true) s = .next t ∧ t.AwaitsEvacIn (n + 1) := by
  have hsample : (s.sampleEvacIn true).sampleMainsOk true = { s with fire.evacIn := ⟨false, n + 1⟩ } := by
    rw [State.sampleEvacIn_counts h.evacIn hn]
    exact State.sampleMainsOk_same h.mainsOk
  have hcounted : State.AwaitsEvacIn (n + 1) { s with fire.evacIn := ⟨false, n + 1⟩ } :=
    ⟨rfl, h.mainsOk, h.noneConfirmed, h.flag, h.pool, h.queue⟩
  exact ⟨_, congrArg done hsample, hcounted.pump⟩

/-- The third active sample in a row makes EVACUATE active, with its entry and its report. -/
theorem State.AwaitsEvacIn.third {s : State} (h : s.AwaitsEvacIn 2) :
    ∃ t, exec (.lineInputSample true true) s = .next t ∧ t.evacuate = true ∧ t.fire.evacIn = ⟨true, 0⟩ ∧
      ⟨t.now, .evacuation true false true false⟩ ∈ t.link.outbox ∧
      ∃ e ∈ t.alarms.entries, e.kind = .evacInput ∧ e.active = true ∧ e.accepted = false := by
  obtain ⟨hline, hmains, hevac, hnow, halarms, hreport⟩ := State.takeEvacIn_begun h.evacuate_eq
  rw [h.noneConfirmed, h.flag] at hreport
  have hsample : (s.sampleEvacIn true).sampleMainsOk true = s.takeEvacIn true := by
    rw [State.sampleEvacIn_takes h.evacIn]
    exact State.sampleMainsOk_same (hmains.trans h.mainsOk)
  have hpump := (s.takeEvacIn true).pump_changes.only
  refine ⟨(s.takeEvacIn true).pump, congrArg done hsample, (hpump.evacuate_eq (by decide) (by decide)).trans hevac,
    (hpump.evacIn_eq (by decide)).trans hline, ?_, ?_⟩
  · rw [State.now, State.pump_clock, ← State.now, hnow]
    exact State.mem_pump_outbox (hreport h.roomFor)
  · obtain ⟨e, he, hkind, -, hactive, haccepted, -⟩ :=
      Alarms.raised_entry (k := .evacInput) h.pool s.now true .none
    rw [State.pump_alarms, halarms]
    exact ⟨e, he, hkind, hactive, haccepted⟩

/-! ## The state after start (R63, R170) -/

/-- A start's records, before it is announced. -/
def State.startRecords (s : State) : State :=
  ((startBase s.store.found s.pending).startDetectors.startDoors.startSigns.refreshLamps).startScanners

theorem State.start_eq (s : State) : s.start = s.startRecords.announceStart s.link.startDue := rfl

theorem State.startRecords_changesOnly (s : State) :
    ChangesOnly [.words, .scanners, .detectors, .doors, .exits, .signs] (startBase s.store.found s.pending)
      s.startRecords := by
  have hdetectors := (State.startDetectors_changes (startBase s.store.found s.pending)).only
  have hdoors := (State.startDoors_changes (startBase s.store.found s.pending).startDetectors).only
  have hsigns := (State.startSigns_changes (startBase s.store.found s.pending).startDetectors.startDoors).only
  exact ((((hdetectors.mono (by decide)).trans (hdoors.mono (by decide))).trans (hsigns.mono (by decide))).trans
    ((State.refreshLamps_changes _).only.mono (by decide))).trans ((State.startScanners_changes _).only.mono (by decide))

theorem startZones_normal (img : Image) (area : Area) {x : Zone} (h : x ∈ (startZones img area).rows) :
    x.fire = .normal := by
  rw [Table.rows_eq_range] at h
  obtain ⟨z, hz, rfl⟩ := List.mem_map.1 h
  rw [startZones, Table.get_map _ _ (List.mem_range.1 hz)]
  rfl

/-- The announcement of a start: STARTED, and at most one report more, an ALARM_ENTRY (R74, R170). -/
theorem State.announceStart_outbox {s : State} (h : s.link.outbox = []) (restarted : Bool) :
    ∃ rs, (s.announceStart restarted).link.outbox =
        ⟨s.now, .started restarted s.store.settingsLoaded s.store.standingLoaded⟩ :: rs ∧ rs.length ≤ 1 ∧
      ∀ r ∈ rs, ∃ change kind obj place entry gone, r.body = .alarmEntry change kind obj place entry gone := by
  have hempty : s.link.reports.length = 0 := by
    have := s.reports_length_le_outbox; rw [h] at this; exact Nat.le_zero.1 this
  unfold State.announceStart
  dsimp only
  generalize ReportBody.started restarted s.store.settingsLoaded s.store.standingLoaded = body
  have hstarted : (s.report body).link.outbox = [⟨s.now, body⟩] := by
    rw [State.report_outbox _ _ (by omega), h, List.nil_append]
  have hlength : (s.report body).link.reports.length < 96 := by
    have := s.report_reports_length body; omega
  split
  · exact ⟨[], hstarted, Nat.zero_le _, fun r hr => absurd hr List.not_mem_nil⟩
  · obtain ⟨change, place, entry, gone, hraised⟩ := State.raise_outbox hlength .settingsFault .none
    rw [hraised, hstarted]
    refine ⟨_, rfl, Nat.le_refl 1, fun r hr => ?_⟩
    rw [List.mem_singleton.1 hr]
    exact ⟨_, _, _, _, _, _, rfl⟩

/-- The alarm list after a start holds no FIRE entry (R74). -/
theorem State.announceStart_pool {s : State} (h : s.alarms = ⟨[], false, false, false⟩) (restarted : Bool) :
    (s.announceStart restarted).alarms.room .fire = true := by
  unfold State.announceStart
  dsimp only
  split
  · rw [State.report_alarms, h]; rfl
  · rw [State.raise_alarms, State.report_alarms, h]; rfl

theorem State.startRecords_outbox (s : State) : s.startRecords.link.outbox = [] := by
  have hbase := s.startRecords_changesOnly
  have hreports : s.startRecords.link.reports = [] := (hbase .reports (by decide)).1
  have hsending : s.startRecords.link.sending = none := (hbase .replies (by decide)).2.2
  rw [Link.outbox, hreports, hsending]; rfl

/-- The device-wide fire state after a start, and the zones it is read from (R63). -/
theorem State.start_fire (s : State) : s.start.fire =
    ⟨startZones s.store.found.loadedImage s.store.found.loadedArea, ⟨false, 0⟩, ⟨true, 0⟩, false⟩ := by
  have hbase : ChangesOnly [.words, .scanners, .detectors, .doors, .exits, .signs, .alarms, .reports]
      (startBase s.store.found s.pending) s.start :=
    (s.startRecords_changesOnly.mono (by decide)).trans ((State.announceStart_changes _ _).only.mono (by decide))
  have hzones : s.start.fire.zones = startZones s.store.found.loadedImage s.store.found.loadedArea :=
    hbase .zones (by decide)
  have hevacIn : s.start.fire.evacIn = ⟨false, 0⟩ := hbase.evacIn_eq (by decide)
  have hmainsOk : s.start.fire.mainsOk = ⟨true, 0⟩ := hbase.mainsOk_eq (by decide)
  have hflag : s.start.fire.silenced = false := hbase.silenced_eq (by decide)
  rw [← hzones, ← hevacIn, ← hmainsOk, ← hflag]

/-- A start announces itself as STARTED, and sends no report of another event than a raise behind it. -/
theorem State.start_outbox (s : State) : ∃ loaded standing rs,
    s.start.link.outbox = ⟨0, .started s.link.startDue loaded standing⟩ :: rs ∧ rs.length ≤ 1 ∧
      ∀ r ∈ rs, ∃ change kind obj place entry gone, r.body = .alarmEntry change kind obj place entry gone := by
  obtain ⟨rs, houtbox, hlength, hentries⟩ := State.announceStart_outbox s.startRecords_outbox s.link.startDue
  have hnow : s.startRecords.now = 0 := s.startRecords_changesOnly.now_eq (by decide)
  rw [hnow] at houtbox
  exact ⟨_, _, rs, houtbox, hlength, hentries⟩

theorem State.start_zones_normal {s : State} {x : Zone} (h : x ∈ s.start.fire.zones.rows) : x.fire = .normal := by
  rw [s.start_fire] at h
  exact startZones_normal _ _ h

theorem State.start_noneConfirmed (s : State) : s.start.anyConfirmed = false :=
  List.any_eq_false.2 fun x hx => by rw [State.start_zones_normal hx]; decide

theorem State.start_alertOut (s : State) : s.start.alertOut = false :=
  List.any_eq_false.2 fun x hx => by rw [State.start_zones_normal hx]; decide

/-- After a start nothing holds EVACUATE, and no sample of EVAC_IN has been counted (R63). -/
theorem State.start_awaitsEvacIn (s : State) : s.start.AwaitsEvacIn 0 where
  evacIn := by rw [s.start_fire]
  mainsOk := by rw [s.start_fire]
  noneConfirmed := s.start_noneConfirmed
  flag := by rw [s.start_fire]
  pool := State.announceStart_pool (s.startRecords_changesOnly.alarms_eq (by decide)) s.link.startDue
  queue := by
    obtain ⟨_, _, rs, houtbox, hlength, -⟩ := s.start_outbox
    rw [houtbox, List.length_cons]; omega

/-- Settles O13: the state after start awaits EVAC_IN, which two samples leave so and the third ends. -/
theorem startLeavesNoEvacuation : Obligations.StartLeavesNoEvacuation := by
  intro s
  obtain ⟨loaded, standing, rs, houtbox, -, hentries⟩ := s.start_outbox
  have hstart : s.start.pump.AwaitsEvacIn 0 := s.start_awaitsEvacIn.pump
  obtain ⟨t1, h1, hawaits1⟩ := hstart.counts (by decide)
  obtain ⟨t2, h2, hawaits2⟩ := hawaits1.counts (by decide)
  obtain ⟨t3, h3, hevac, hline, hreport, hentry⟩ := hawaits2.third
  refine ⟨s.start.pump, rfl, hstart.evacuate_eq, hstart.flag, ?_, ?_, hstart.noneConfirmed, hstart.evacIn, hstart.mainsOk,
    ⟨loaded, standing, rs, s.start.pump_outbox.trans houtbox⟩, fun r hr a z l f hbody => ?_,
    t1, t2, t3, h1, h2, h3, hawaits1.evacuate_eq, hawaits2.evacuate_eq, hevac, hline, hreport, hentry⟩
  · rw [State.sounderOut, hstart.evacuate_eq]; rfl
  · rw [State.alertOut, State.pump_fire]
    exact s.start_alertOut
  · rw [State.pump_outbox, houtbox] at hr
    obtain rfl | hlater := List.mem_cons.1 hr
    · cases hbody
    · obtain ⟨_, _, _, _, _, _, hentry⟩ := hentries r hlater
      cases hentry.symm.trans hbody

end Sys2Proof.Machine
end

section
/-! PROOFS. Which requests an evacuation, a save and a held release latch refuse (R168): the refusals that a
configuration request meets before any of its own, those of a STANDING isolation, and the statuses every other request can
be answered with. -/

namespace Sys2Proof.Machine

/-! ## A request on a free port -/

/-- A request is served by its block, or held (R165). -/
theorem exec_eq_request {i : Instr} (h : (requestCode i).isSome = true) (s : State) :
    exec i s = request i (serveRequest i) s := by
  cases i <;> first | rfl | cases h

theorem exec_request_free {i : Instr} {s : State} (h : (requestCode i).isSome = true) (hfree : s.link.free = true) :
    exec i s = .next (serveRequest i s).pump :=
  (exec_eq_request h s).trans (request_free i (serveRequest i) s hfree)

/-- A request that its block only refuses leaves its reply and nothing else. -/
theorem exec_refused {i : Instr} {s : State} {st : Status} (h : (requestCode i).isSome = true)
    (hfree : s.link.free = true) (hserve : serveRequest i s = s.refuse i st) :
    ∃ t, exec i s = .next t ∧ ChangesOnly [.reports, .replies] s t ∧ s.sendsNoReport t ∧ t.replies i st .none := by
  obtain ⟨hquiet, hreply, honly⟩ := State.reply_pump_answers hfree i st .none
  exact ⟨(s.refuse i st).pump, by rw [exec_request_free h hfree, hserve], honly, hquiet, hreply⟩

/-! ## Configuration requests (R168, R171) -/

/-- The requests that R168 and R171 refuse in an evacuation and during a save: each CFG_ request, SAVE_SETTINGS and
RESTART. -/
def isConfiguration : Instr → Bool
  | .cfgPoint .. | .cfgZone .. | .cfgProfile .. | .cfgGroup .. | .cfgDoor .. | .cfgPair .. | .cfgExit .. | .cfgSign ..
  | .cfgSequence .. | .cfgLamp .. | .cfgLampGroup .. | .saveSettings _ | .restart _ => true
  | _ => false

/-- Configuration requests by their codes (12.5). -/
theorem isConfiguration_iff {i : Instr} {code : Byte} (h : requestCode i = some code) :
    isConfiguration i = true ↔ (0x10 ≤ code.toNat ∧ code.toNat ≤ 0x1B) ∨ code = 0x39 := by
  cases i <;> cases h <;> simp [isConfiguration]

/-- A configuration request meets the refusals of R168 before any of its own. -/
theorem serveRequest_cfgRefusal {i : Instr} {s : State} {st : Status} (hi : isConfiguration i = true)
    (h : s.cfgRefusal = some st) : serveRequest i s = s.refuse i st := by
  have hdoor : s.cfgDoorRefusal = some st := by rw [State.cfgDoorRefusal, h]
  cases i
  case cfgPoint => simp only [serveRequest, serveCfgPoint, h]
  case cfgZone => simp only [serveRequest, serveCfgZone, h]
  case cfgProfile => exact serveCfgProfile_refused h _ _ _
  case cfgGroup => simp only [serveRequest, serveCfgGroup, h]
  case cfgDoor => simp only [serveRequest, serveCfgDoor, hdoor]
  case cfgPair => simp only [serveRequest, serveCfgPair, hdoor]
  case cfgExit => simp only [serveRequest, serveCfgExit, h]
  case cfgSign => simp only [serveRequest, serveCfgSign, h]
  case cfgSequence => simp only [serveRequest, serveCfgSequence, h]
  case cfgLamp => simp only [serveRequest, serveCfgLamp, h]
  case cfgLampGroup => simp only [serveRequest, serveCfgLampGroup, h]
  case saveSettings => simp only [serveRequest, serveSaveSettings, h]
  case restart => simp only [serveRequest, serveRestart, h]
  all_goals cases hi

theorem State.cfgRefusal_of_evacuate {s : State} (h : s.evacuate = true) : s.cfgRefusal = some .evacuating := if_pos h

theorem State.cfgRefusal_of_saving {s : State} (h : s.evacuate = false) (hsaving : s.store.saving.isSome = true) :
    s.cfgRefusal = some .busy := by rw [State.cfgRefusal, h, hsaving]; rfl

/-- A door or pair cannot be configured while the release latch holds a cause (R92, R113). -/
theorem State.cfgDoorRefusal_of_latched {s : State} (hevac : s.evacuate = false) (hsaving : s.store.saving = none)
    (h : s.latched = true) : s.cfgDoorRefusal = some .wrongState := by
  simp [State.cfgDoorRefusal, State.cfgRefusal, hevac, hsaving, h]

theorem serveCfgDoor_refused {s : State} {st : Status} (h : s.cfgDoorRefusal = some st) (tag : Byte) (d : Nat)
    (c : Option DoorSetting) : serveCfgDoor tag d c s = s.refuse (.cfgDoor tag d c) st := by
  simp only [serveCfgDoor, h]

theorem serveCfgPair_refused {s : State} {st : Status} (h : s.cfgDoorRefusal = some st) (tag : Byte) (q : Nat)
    (c : Option PairSetting) : serveCfgPair tag q c s = s.refuse (.cfgPair tag q c) st := by
  simp only [serveCfgPair, h]

/-! ## STANDING isolations during a save (R168) -/

/-- The request asks STANDING of an object that exists, or finds it STANDING isolated. -/
def State.MovesStanding (s : State) (i : Instr) : Prop :=
  ∃ tag target, s.noTarget target = false ∧
    (i = .isolate tag target .standing ∨
      s.isolationOf target = .standing ∧ ((∃ ask, i = .isolate tag target ask) ∨ i = .restoreIsolation tag target))

theorem serveIsolate_saving {s : State} {target : Target} {ask : IsolationAsk} (tag : Byte)
    (htarget : s.noTarget target = false) (h : s.isolationOf target = .standing ∨ ask = .standing)
    (hsaving : s.store.saving.isSome = true) :
    serveIsolate tag target ask s = s.refuse (.isolate tag target ask) .busy := by
  have hstanding : (s.isolationOf target == .standing || givenIsolation ask == .standing) = true := by
    obtain h | rfl := h
    · simp [h]
    · simp [givenIsolation]
  simp [serveIsolate, htarget, hstanding, hsaving]

theorem serveRestoreIsolation_saving {s : State} {target : Target} (tag : Byte) (htarget : s.noTarget target = false)
    (h : s.isolationOf target = .standing) (hsaving : s.store.saving.isSome = true) :
    serveRestoreIsolation tag target s = s.refuse (.restoreIsolation tag target) .busy := by
  simp [serveRestoreIsolation, htarget, h, hsaving]

theorem State.MovesStanding.serveRequest_saving {s : State} {i : Instr} (h : s.MovesStanding i)
    (hsaving : s.store.saving.isSome = true) : serveRequest i s = s.refuse i .busy := by
  obtain ⟨tag, target, htarget, rfl | ⟨hheld, ⟨ask, rfl⟩ | rfl⟩⟩ := h
  · exact serveIsolate_saving tag htarget (.inr rfl) hsaving
  · exact serveIsolate_saving tag htarget (.inl hheld) hsaving
  · exact serveRestoreIsolation_saving tag htarget hheld hsaving

/-! ## Requests answered with another status than BUSY -/

/-- What the link has to send of replies is the same in `s` and `t`. -/
def State.KeepsReplies (s t : State) : Prop := Part.replies.same s t

theorem State.KeepsReplies.refl (s : State) : s.KeepsReplies s := Part.same_refl _ s

theorem Changes.keepsReplies {ps : List Part} {s t : State} (h : Changes ps s t)
    (hp : Part.replies ∉ ps := by decide) : s.KeepsReplies t := h.only .replies hp

theorem State.KeepsReplies.trans {s t u : State} (h : s.KeepsReplies t) (k : t.KeepsReplies u) : s.KeepsReplies u :=
  Part.same_trans h k

/-- `t` follows from `s` by effects that make no reply, and then the reply to `i`, with another status than BUSY. -/
def State.AnswersUnbusy (s : State) (i : Instr) (t : State) : Prop :=
  ∃ u st b, s.KeepsReplies u ∧ st ≠ .busy ∧ t = u.reply i st b

theorem State.KeepsReplies.reply {s u : State} (h : s.KeepsReplies u) {i : Instr} {st : Status} {b : ReplyBody}
    (hst : st ≠ .busy := by decide) : s.AnswersUnbusy i (u.reply i st b) := ⟨u, st, b, h, hst, rfl⟩

theorem State.KeepsReplies.accept {s u : State} (h : s.KeepsReplies u) {i : Instr} :
    s.AnswersUnbusy i (u.accept i) := h.reply

theorem State.refuse_unbusy {s : State} {i : Instr} {st : Status} (hst : st ≠ .busy := by decide) :
    s.AnswersUnbusy i (s.refuse i st) := (State.KeepsReplies.refl s).reply hst

theorem State.setAlarms_keepsReplies (s : State) (x : Alarms) : s.KeepsReplies { s with alarms := x } := ⟨rfl, rfl, rfl⟩

theorem State.setGuard_keepsReplies (s : State) (x : Guard) : s.KeepsReplies { s with guard := x } := ⟨rfl, rfl, rfl⟩

theorem State.AnswersUnbusy.ite {s t u : State} {i : Instr} {c : Prop} [Decidable c]
    (h : c → s.AnswersUnbusy i t) (k : ¬ c → s.AnswersUnbusy i u) : s.AnswersUnbusy i (if c then t else u) :=
  iteInduction h k

/-- On a free port the reply served is the one just made. -/
theorem State.AnswersUnbusy.not_busy {s t : State} {i : Instr} (h : s.AnswersUnbusy i t) (hfree : s.link.free = true)
    (b : ReplyBody) : ¬ t.pump.replies i .busy b := by
  obtain ⟨u, st, b', ⟨-, -, hsending⟩, hst, rfl⟩ := h
  obtain ⟨-, -, hnone, -⟩ := (Link.free_iff _).1 hfree
  intro hbusy
  rw [State.replies, State.pump_replying, State.reply, State.answer_replying _ _ _ _ _ (hsending ▸ hnone)] at hbusy
  injection hbusy with hbusy
  injection hbusy with _ _ hstatus
  exact hst hstatus

theorem clampStatus_ne_busy (clamped : Bool) : clampStatus clamped ≠ .busy := by cases clamped <;> decide

theorem Ruling.status_ne_busy (r : Ruling) (clamped : Bool) : r.status clamped ≠ .busy := by
  cases r with
  | added => exact clampStatus_ne_busy clamped
  | pending => exact nofun
  | refused => exact nofun

section
variable (tag : Byte) (s : State)

/-! ### Observing -/

theorem serveGetPair_unbusy (q : Nat) : s.AnswersUnbusy (.getPair tag q) (serveGetPair tag q s) := by
  unfold serveGetPair
  split
  · exact State.refuse_unbusy
  · exact (State.KeepsReplies.refl s).reply

theorem serveGetSign_unbusy (n : Nat) : s.AnswersUnbusy (.getSign tag n) (serveGetSign tag n s) := by
  unfold serveGetSign
  split
  · exact State.refuse_unbusy
  · exact (State.KeepsReplies.refl s).reply

theorem serveGetAlarms_unbusy (n : Nat) : s.AnswersUnbusy (.getAlarms tag n) (serveGetAlarms tag n s) :=
  .ite (fun _ => State.refuse_unbusy) fun _ => (s.setAlarms_keepsReplies _).reply

/-! ### Isolations -/

/-- An ISOLATE that moves no STANDING isolation (R13, R49). -/
theorem serveIsolate_unbusy {target : Target} {ask : IsolationAsk}
    (h : ¬ s.MovesStanding (.isolate tag target ask)) :
    s.AnswersUnbusy (.isolate tag target ask) (serveIsolate tag target ask s) := by
  refine .ite (fun _ => State.refuse_unbusy) fun htarget => ?_
  rw [Bool.not_eq_true] at htarget
  have hstanding : (s.isolationOf target == .standing || givenIsolation ask == .standing) = false := by
    rw [Bool.or_eq_false_iff, beq_eq_false_iff_ne, beq_eq_false_iff_ne]
    refine ⟨fun hheld => h ⟨tag, target, htarget, .inr ⟨hheld, .inl ⟨ask, rfl⟩⟩⟩, fun hgiven => ?_⟩
    cases ask with
    | temporary m => cases hgiven
    | standing => exact h ⟨tag, target, htarget, .inl rfl⟩
  rw [hstanding]
  refine .ite (fun hsave => absurd hsave Bool.false_ne_true) fun _ => .ite (fun _ => State.refuse_unbusy) fun _ => ?_
  exact (s.isolateTarget_changes _ target).keepsReplies.reply (clampStatus_ne_busy _)

/-- A RESTORE_ISOLATION that moves no STANDING isolation (R17, R50). -/
theorem serveRestoreIsolation_unbusy {target : Target} (h : ¬ s.MovesStanding (.restoreIsolation tag target)) :
    s.AnswersUnbusy (.restoreIsolation tag target) (serveRestoreIsolation tag target s) := by
  refine .ite (fun _ => State.refuse_unbusy) fun htarget => ?_
  rw [Bool.not_eq_true] at htarget
  have hstanding : (s.isolationOf target == .standing) = false :=
    beq_eq_false_iff_ne.2 fun hheld => h ⟨tag, target, htarget, .inr ⟨hheld, .inr rfl⟩⟩
  rw [hstanding]
  refine .ite (fun hsave => absurd hsave Bool.false_ne_true) fun _ => .ite (fun _ => State.refuse_unbusy) fun _ => ?_
  exact (s.isolateTarget_changes _ target).keepsReplies.reply

/-! ### Fire and the alarm list -/

theorem serveAcceptFire_unbusy (z : Nat) : s.AnswersUnbusy (.acceptFire tag z) (serveAcceptFire tag z s) := by
  refine .ite (fun _ => State.refuse_unbusy) fun _ => ?_
  split
  · exact (s.changeZone_changes ..).keepsReplies.accept
  · exact State.refuse_unbusy

theorem serveConfirmFire_unbusy (z : Nat) : s.AnswersUnbusy (.confirmFire tag z) (serveConfirmFire tag z s) :=
  .ite (fun _ => State.refuse_unbusy) fun _ => .ite (fun _ => State.refuse_unbusy) fun _ =>
    (s.changeZone_changes ..).keepsReplies.accept

theorem serveSilence_unbusy : s.AnswersUnbusy (.silence tag) (serveSilence tag s) :=
  .ite (fun _ => State.refuse_unbusy) fun _ => (s.setSilenced_changes true).keepsReplies.accept

theorem serveFireReset_unbusy : s.AnswersUnbusy (.fireReset tag) (serveFireReset tag s) :=
  .ite (fun _ => State.refuse_unbusy) fun _ => .ite (fun _ => State.refuse_unbusy) fun _ =>
    s.fireReset_changes.keepsReplies.accept

theorem State.acceptEntries_unbusy (i : Instr) (sel : Entry → Bool) : s.AnswersUnbusy i (s.acceptEntries i sel) :=
  (s.setAlarms_keepsReplies _).reply

theorem serveAcceptAlarm_unbusy (target : AcceptTarget) :
    s.AnswersUnbusy (.acceptAlarm tag target) (serveAcceptAlarm tag target s) := by
  unfold serveAcceptAlarm
  split
  · refine .ite (fun _ => s.acceptEntries_unbusy _ _) fun _ => State.refuse_unbusy ?_
    split <;> decide
  · exact State.refuse_unbusy
  · exact s.acceptEntries_unbusy _ _
  · exact State.refuse_unbusy

/-! ### Regimes -/

theorem serveStageSegment_unbusy (g : Nat) (target : Option Mode) (minutes : Nat) (repeats : Bool) :
    s.AnswersUnbusy (.stageSegment tag g target minutes repeats)
      (serveStageSegment tag g target minutes repeats s) := by
  refine .ite (fun _ => State.refuse_unbusy) fun _ => ?_
  cases target with
  | none => exact State.refuse_unbusy
  | some m =>
    have hput (x : Group) := (s.putGroup_changes g x).keepsReplies
    refine State.KeepsReplies.reply ?_ (clampStatus_ne_busy _)
    split
    · exact (hput _).trans (State.takeStaged_changes _ g).keepsReplies
    · exact hput _

theorem serveSetMode_unbusy (g : Nat) (mode : Option Mode) :
    s.AnswersUnbusy (.setMode tag g mode) (serveSetMode tag g mode s) := by
  refine .ite (fun _ => State.refuse_unbusy) fun _ => ?_
  cases mode with
  | none => exact State.refuse_unbusy
  | some m =>
    exact .ite (fun _ => State.refuse_unbusy) fun _ => .ite (fun _ => State.refuse_unbusy) fun _ =>
      (s.applyTarget_changes g m .host).keepsReplies.accept

/-! ### Doors -/

theorem serveReleaseDoor_unbusy (d : Nat) (seconds : Option Nat) :
    s.AnswersUnbusy (.releaseDoor tag d seconds) (serveReleaseDoor tag d seconds s) :=
  .ite (fun _ => State.refuse_unbusy) fun _ =>
    (s.addByRequest_changes d _).keepsReplies.reply (Ruling.status_ne_busy _ _)

theorem serveHoldDoor_unbusy (d : Nat) : s.AnswersUnbusy (.holdDoor tag d) (serveHoldDoor tag d s) :=
  .ite (fun _ => State.refuse_unbusy) fun _ => .ite (fun _ => (State.KeepsReplies.refl s).reply) fun _ =>
    (s.addByRequest_changes d _).keepsReplies.reply (Ruling.status_ne_busy _ _)

theorem serveLockDoor_unbusy (d : Nat) : s.AnswersUnbusy (.lockDoor tag d) (serveLockDoor tag d s) := by
  refine .ite (fun _ => State.refuse_unbusy) fun _ => State.KeepsReplies.reply ?_
  have hcancel := (s.cancelFor_changes d).keepsReplies
  split
  · exact hcancel.trans (State.doorEvent_changes (by decide) fun t => t.changeDoor_changes d _ _).keepsReplies
  · exact hcancel

theorem serveDoorRestore_unbusy : s.AnswersUnbusy (.doorRestore tag) (serveDoorRestore tag s) :=
  .ite (fun _ => State.refuse_unbusy) fun _ => .ite (fun _ => State.refuse_unbusy) fun _ =>
    s.latchLosesEvac_changes.keepsReplies.reply

/-! ### Passage grants and calls -/

theorem serveGrantPassage_unbusy (zones : List Nat) (duration : Nat) :
    s.AnswersUnbusy (.grantPassage tag zones duration) (serveGrantPassage tag zones duration s) := by
  refine .ite (fun _ => State.refuse_unbusy) fun _ => ?_
  split
  · exact State.refuse_unbusy
  · exact (s.setGuard_keepsReplies _).reply (clampStatus_ne_busy _)

theorem serveEndPassage_unbusy (n : Nat) : s.AnswersUnbusy (.endPassage tag n) (serveEndPassage tag n s) := by
  unfold serveEndPassage
  split
  · exact (s.endGrant_changes ..).keepsReplies.accept
  · exact State.refuse_unbusy

theorem State.onCall_unbusy {i : Instr} {f : Call → State} (h : ∀ r, s.AnswersUnbusy i (f r)) (n : Nat) :
    s.AnswersUnbusy i (s.onCall i n f) := by
  unfold State.onCall
  split
  · exact State.refuse_unbusy
  · exact h _

theorem serveAnswerCall_unbusy (n : Nat) : s.AnswersUnbusy (.answerCall tag n) (serveAnswerCall tag n s) := by
  refine s.onCall_unbusy (fun r => ?_) n
  split
  · exact ((s.changeCall_changes ..).keepsReplies.trans (State.endAlarm_changes ..).keepsReplies).accept
  · exact State.refuse_unbusy

theorem serveHoldCall_unbusy (n : Nat) : s.AnswersUnbusy (.holdCall tag n) (serveHoldCall tag n s) := by
  refine s.onCall_unbusy (fun r => ?_) n
  split
  · exact ((s.changeCall_changes ..).keepsReplies.trans (State.settleCalls_changes _).keepsReplies).accept
  · exact State.refuse_unbusy

theorem serveEndCall_unbusy (n : Nat) : s.AnswersUnbusy (.endCall tag n) (serveEndCall tag n s) :=
  s.onCall_unbusy (fun r => (s.finishCall_changes r .ended).keepsReplies.accept) n

/-! ### Exits -/

theorem State.setBlocked_unbusy (i : Instr) (e : Nat) (b : Bool) : s.AnswersUnbusy i (s.setBlocked i e b) := by
  refine .ite (fun _ => State.refuse_unbusy) fun _ => State.KeepsReplies.reply ?_
  split
  · exact .refl s
  · exact (s.putExit_changes ..).keepsReplies.trans (State.reroute_changes ..).keepsReplies

/-! ### Duration tests -/

/-- A START_TEST that no other group's test keeps waiting (R159). -/
theorem serveStartTest_unbusy {g : Nat} (h : s.testRefusal g .idle ≠ some .busy) :
    s.AnswersUnbusy (.startTest tag g) (serveStartTest tag g s) := by
  unfold serveStartTest
  split
  · next st hst => exact State.refuse_unbusy fun hbusy => h (hbusy ▸ hst)
  · have hfail (ps : List Nat) (t : State) : t.KeepsReplies (t.each ps fun p u =>
        if u.lampInTest p && (u.point p).health != .normal then u.failLamp p else u) :=
      (Changes.each (ps := [.words, .lamps, .reports])
        (fun p u => iteInduction (fun _ => u.failLamp_changes p) fun _ => .refl _ u) ps t).keepsReplies
    exact ((s.putLampGroup_changes ..).keepsReplies.trans <| (State.eachLampOf_changes ..).keepsReplies.trans <|
      (State.refreshLamps_changes _).keepsReplies.trans <| (State.reportTest_changes ..).keepsReplies.trans <|
      hfail _ _).accept

/-- A RESUME_TEST that no other group's test keeps waiting (R159). -/
theorem serveResumeTest_unbusy {g : Nat} (h : s.testRefusal g .suspended ≠ some .busy) :
    s.AnswersUnbusy (.resumeTest tag g) (serveResumeTest tag g s) := by
  unfold serveResumeTest
  split
  · next st hst => exact State.refuse_unbusy fun hbusy => h (hbusy ▸ hst)
  · exact ((s.putLampGroup_changes ..).keepsReplies.trans <| (State.refreshLamps_changes _).keepsReplies.trans
      (State.reportTest_changes ..).keepsReplies).accept

theorem serveSuspendTest_unbusy (g : Nat) : s.AnswersUnbusy (.suspendTest tag g) (serveSuspendTest tag g s) :=
  .ite (fun _ => State.refuse_unbusy) fun _ => .ite (fun _ => State.refuse_unbusy) fun _ =>
    ((s.putLampGroup_changes ..).keepsReplies.trans <| (State.refreshLamps_changes _).keepsReplies.trans
      (State.reportTest_changes ..).keepsReplies).accept

theorem serveStopTest_unbusy (g : Nat) : s.AnswersUnbusy (.stopTest tag g) (serveStopTest tag g s) :=
  .ite (fun _ => State.refuse_unbusy) fun _ => .ite (fun _ => State.refuse_unbusy) fun _ =>
    (s.abandonTest_changes g).keepsReplies.accept

end

/-! ## BUSY without a save -/

/-- A test that another group's test keeps from starting or going on: the one BUSY that is no save's (R159). -/
def State.TestWaits (s : State) : Instr → Prop
  | .startTest _ g => s.testRefusal g .idle = some .busy
  | .resumeTest _ g => s.testRefusal g .suspended = some .busy
  | _ => False

theorem State.TestWaits.serveRequest_busy {s : State} {i : Instr} (h : s.TestWaits i) :
    serveRequest i s = s.refuse i .busy := by
  cases i
  case startTest tag g => simp only [serveRequest, serveStartTest, show s.testRefusal g .idle = _ from h]
  case resumeTest tag g => simp only [serveRequest, serveResumeTest, show s.testRefusal g .suspended = _ from h]
  all_goals cases h

/-- The refusals of R159 do not read the store. -/
theorem State.TestWaits.of_store {s : State} {i : Instr} (h : s.TestWaits i) (x : Store) :
    State.TestWaits { s with store := x } i := by
  cases i
  case startTest => exact h
  case resumeTest => exact h
  all_goals cases h

/-- No request but those of R168, R171 and a waiting test is answered BUSY. -/
theorem serveRequest_unbusy {i : Instr} {s : State} (hi : (requestCode i).isSome = true)
    (hconfig : isConfiguration i = false) (hstanding : ¬ s.MovesStanding i) (htest : ¬ s.TestWaits i) :
    s.AnswersUnbusy i (serveRequest i s) := by
  have hview {b : ReplyBody} : s.AnswersUnbusy i (s.reply i .ok b) := (State.KeepsReplies.refl s).reply
  cases i
  case getSummary => exact hview
  case getPoint => exact .ite (fun _ => State.refuse_unbusy) fun _ => hview
  case getZone => exact .ite (fun _ => State.refuse_unbusy) fun _ => hview
  case getGroup => exact .ite (fun _ => State.refuse_unbusy) fun _ => hview
  case getDoor => exact .ite (fun _ => State.refuse_unbusy) fun _ => hview
  case getPair => exact serveGetPair_unbusy ..
  case getCalls => exact hview
  case getSign => exact serveGetSign_unbusy ..
  case getExit => exact .ite (fun _ => State.refuse_unbusy) fun _ => hview
  case getLampGroup => exact .ite (fun _ => State.refuse_unbusy) fun _ => hview
  case getAlarms => exact serveGetAlarms_unbusy ..
  case isolate => exact serveIsolate_unbusy _ _ hstanding
  case restoreIsolation => exact serveRestoreIsolation_unbusy _ _ hstanding
  case acceptFire => exact serveAcceptFire_unbusy ..
  case confirmFire => exact serveConfirmFire_unbusy ..
  case silence => exact serveSilence_unbusy ..
  case resound => exact (s.setSilenced_changes false).keepsReplies.accept
  case fireReset => exact serveFireReset_unbusy ..
  case stageSegment => exact serveStageSegment_unbusy ..
  case setMode => exact serveSetMode_unbusy ..
  case releaseDoor => exact serveReleaseDoor_unbusy ..
  case holdDoor => exact serveHoldDoor_unbusy ..
  case lockDoor => exact serveLockDoor_unbusy ..
  case doorRestore => exact serveDoorRestore_unbusy ..
  case grantPassage => exact serveGrantPassage_unbusy ..
  case endPassage => exact serveEndPassage_unbusy ..
  case answerCall => exact serveAnswerCall_unbusy ..
  case holdCall => exact serveHoldCall_unbusy ..
  case endCall => exact serveEndCall_unbusy ..
  case blockExit => exact s.setBlocked_unbusy ..
  case unblockExit => exact s.setBlocked_unbusy ..
  case startTest => exact serveStartTest_unbusy _ _ htest
  case suspendTest => exact serveSuspendTest_unbusy ..
  case resumeTest => exact serveResumeTest_unbusy _ _ htest
  case stopTest => exact serveStopTest_unbusy ..
  case acceptAlarm => exact serveAcceptAlarm_unbusy ..
  all_goals simp [requestCode, isConfiguration] at hi hconfig

/-- A request that R168 lets through is replied BUSY during a save only where it is without one too. -/
theorem busy_without_save {i : Instr} {s t : State} {b : ReplyBody} (hi : (requestCode i).isSome = true)
    (hfree : s.link.free = true) (hconfig : isConfiguration i = false) (hstanding : ¬ s.MovesStanding i)
    (ht : exec i s = .next t) (hbusy : t.replies i .busy b) :
    ∃ u b', exec i { s with store.saving := none } = .next u ∧ u.replies i .busy b' := by
  rw [exec_request_free hi hfree] at ht
  cases ht
  by_cases htest : s.TestWaits i
  · have hserve := (htest.of_store { s.store with saving := none }).serveRequest_busy
    obtain ⟨u, hu, -, -, hreply⟩ := exec_refused (s := { s with store.saving := none }) hi hfree hserve
    exact ⟨u, .none, hu, hreply⟩
  · exact absurd hbusy ((serveRequest_unbusy hi hconfig hstanding htest).not_busy hfree b)

/-- Settles O16: the refusals from what each block does first, and BUSY without a save from the statuses that the other
requests can be answered with. -/
theorem evacuationAndSaveRefuseConfiguration : Obligations.EvacuationAndSaveRefuseConfiguration := by
  intro i code s hcode hfree
  have hi : (requestCode i).isSome = true := by rw [hcode]; rfl
  dsimp only
  rw [← isConfiguration_iff hcode]
  refine ⟨fun hconfig hevac => ?_, fun hconfig hevac hsaving => ?_, fun hdoor hevac hsaving hlatched => ?_,
    fun hstanding hsaving => ?_, fun hconfig hstanding t b ht hbusy => ?_⟩
  · exact exec_refused hi hfree (serveRequest_cfgRefusal hconfig (State.cfgRefusal_of_evacuate hevac))
  · exact exec_refused hi hfree (serveRequest_cfgRefusal hconfig (State.cfgRefusal_of_saving hevac hsaving))
  · have hrefusal := State.cfgDoorRefusal_of_latched hevac hsaving hlatched
    obtain ⟨tag, d, c, rfl⟩ | ⟨tag, q, c, rfl⟩ := hdoor
    · exact exec_refused hi hfree (serveCfgDoor_refused hrefusal tag d c)
    · exact exec_refused hi hfree (serveCfgPair_refused hrefusal tag q c)
  · exact exec_refused hi hfree (State.MovesStanding.serveRequest_saving hstanding hsaving)
  · exact busy_without_save hi hfree (Bool.not_eq_true _ ▸ hconfig) hstanding ht hbusy

end Sys2Proof.Machine
end
